-- ==== Sys2Proof/Word.lean ====
section
/-! DEFINITION. The word types of the block: bytes, 16-bit and 32-bit values, byte strings.
All integers of the block are unsigned (spec 00_scope.md R11). -/

namespace Sys2Proof

/-- A byte, bit 0 the least significant (R11). -/
abbrev Byte := BitVec 8

/-- A 16-bit unsigned value: CRC16, opcode, data and modifier fields. -/
abbrev Half := BitVec 16

/-- A 32-bit unsigned value: addresses, `unixSeconds`, the time counter. -/
abbrev Word := BitVec 32

/-- A byte string, first byte first (R11). -/
abbrev Bytes := List Byte

end Sys2Proof
end

