-- ==== Sys2Proof/Config.lean ====
section
/-! DEFINITION. The parameters of the block (spec 00_scope.md R8, R9; 10_state.md R33), what the environment presents
to a step (R10, R13, R243), and the free values: constants without a body, so that nothing can be proved of them. -/

namespace Sys2Proof
namespace Config

/-- `N_SLOTS` (R8). -/
def nSlots : Nat := 15
/-- `HDR_BYTES` (R8). -/
def hdrBytes : Nat := 10
/-- `MIN_FRAME_LEN` (R8). -/
def minFrameLen : Nat := 11
/-- `TIMEOUT_MS` (R8): inactivity that must be exceeded before a re-request. -/
def timeoutMs : Nat := 100
/-- `MAX_RETRY` (R8): the retry counter must exceed it to abandon. -/
def maxRetry : Nat := 5
/-- `TICK_MS` (R8). -/
def tickMs : Word := 5
/-- `SYNC_INTERVAL_MS` (R8). -/
def syncIntervalMs : Word := 5000
/-- `CRC16_POLY` (R8), as stated. -/
def crc16Poly : Half := 0x8005
/-- `CRC16_POLY` in the reflected form in which it is used (R8, R100). -/
def crc16PolyReflected : Half := 0xA001
/-- `CRC16_INIT` (R8). -/
def crc16Init : Half := 0xFFFF
/-- `CRC8_POLY` (R8), x^8 + 1: nine bits. -/
def crc8Poly : BitVec 9 := 0x101
/-- `CRC8_INIT` (R8). -/
def crc8Init : Byte := 0x00
/-- `PL_SCALE` (R8). -/
def plScale : Nat := 20
/-- The largest `limitUnits` (R81, R151). -/
def maxLimitUnits : Nat := 3276
/-- `PIPE_PREFIX` (R8). -/
def pipePrefix : Byte := 0x01
/-- `FRAMEID_CMD` (R9, R84): LAST = 1, index = 1. -/
def frameIdCmd : Byte := 0x81

end Config

/-- The parameters R9 and R33 leave to the implementation: inputs present from the first step, constant for the life of
the block (R255). -/
structure Params where
  /-- `LOCAL_ADDR` (R9, D22). -/
  localAddr : Word
  /-- `PEER_ADDR` (R9, D22). -/
  peerAddr : Word
  /-- `TYPE_CONTROL` (R9, R74). -/
  typeControl : Byte
  /-- `TYPE_TIMESYNC` (R9, R74). -/
  typeTimesync : Byte
  /-- `TYPE_REREQUEST` (R9, R74). -/
  typeRerequest : Byte
  /-- `STARTUP_LIMIT_UNITS` (R9, R195). -/
  startupLimitUnits : Nat
  /-- `STARTUP_RELATIVE` (R9, R195). -/
  startupRelative : Bool
  /-- `STARTUP_PERSIST` (R9, R195). -/
  startupPersist : Bool
  /-- `SYNC_FIRST_DELAY_MS` is 5000 when this holds and 0 otherwise (R9, D26). -/
  syncFirstDelayed : Bool
  /-- `MAX_FRAME_LEN` (R9, R71, D6): 32 unless overridden. -/
  maxFrameLen : Nat
deriving DecidableEq, Repr, Inhabited

/-- The configurations the spec calls legal: `26 ≤ MAX_FRAME_LEN` (D6, U9) and a startup limit of 0 to 3276 (R9). -/
abbrev Params.legal (c : Params) : Prop := 26 ≤ c.maxFrameLen ∧ c.startupLimitUnits ≤ Config.maxLimitUnits

/-- Who takes the next step: one of the two activities inside the block, or the HOST, which consumes results and issues
requests (R10, R192, R199). -/
inductive Turn where
  | sender
  | receiver
  | host
deriving DecidableEq, Repr, Inhabited

/-- What the environment presents to one step: the CLOCK's `now` and `unixSeconds`, the CHANNEL's answers, and the grant,
which the spec leaves open (R10, R13, R192, R243). -/
structure Input where
  /-- Whose step it is (R62, R192: any order). -/
  turn : Turn
  /-- The time counter `now` in milliseconds, modulo 2^32 (R13, R238). -/
  now : Word
  /-- The CLOCK's count of seconds (R83, U5). -/
  unixSeconds : Word
  /-- The answer of `chan.isFragmentAvailable()` (R242). -/
  available : Bool
  /-- The byte string `chan.readFragment()` returns: any content, any length (R40, R243). -/
  fragment : Bytes
  /-- The `ack` of `chan.sendFragment(F)` (R242, U12). -/
  ack : Bool
deriving DecidableEq, Repr, Inhabited

namespace Config

/-- OPEN parameter `LOCAL_ADDR` of the machine after reset (R9). -/
opaque localAddr : Word
/-- OPEN parameter `PEER_ADDR` of the machine after reset (R9). -/
opaque peerAddr : Word
/-- OPEN parameter `TYPE_CONTROL` of the machine after reset (R9). -/
opaque typeControl : Byte
/-- OPEN parameter `TYPE_TIMESYNC` of the machine after reset (R9). -/
opaque typeTimesync : Byte
/-- OPEN parameter `TYPE_REREQUEST` of the machine after reset (R9). -/
opaque typeRerequest : Byte
/-- OPEN parameter `STARTUP_LIMIT_UNITS` of the machine after reset (R9). -/
opaque startupLimitUnits : Nat
/-- OPEN parameter `STARTUP_RELATIVE` of the machine after reset (R9). -/
opaque startupRelative : Bool
/-- OPEN parameter `STARTUP_PERSIST` of the machine after reset (R9). -/
opaque startupPersist : Bool
/-- OPEN parameter `SYNC_FIRST_DELAY_MS` of the machine after reset (R9): 5000 or 0. -/
opaque syncFirstDelayed : Bool

/-- The configuration the HOST presents at reset (R10, R255): every OPEN parameter free, `MAX_FRAME_LEN` at its decided
default 32 (R9). -/
def board : Params where
  localAddr := localAddr
  peerAddr := peerAddr
  typeControl := typeControl
  typeTimesync := typeTimesync
  typeRerequest := typeRerequest
  startupLimitUnits := startupLimitUnits
  startupRelative := startupRelative
  startupPersist := startupPersist
  syncFirstDelayed := syncFirstDelayed
  maxFrameLen := 32

/-- FREE VALUE: what the environment presents at step number `n` once the lined-up inputs of the state are used up
(R192, R243; assumption log 3). -/
opaque freeInput : Nat → Input

/-- FREE VALUE: the `req_index` TICK picks when no index of `1..expectedCount` is missing, a case R167 excludes from every
reachable state and gives no value for (assumption log 11). -/
opaque freeReqIndex : Nat → BitVec 5

end Config
end Sys2Proof
end

