-- ==== Sys2Proof/Syntax.lean ====
section
/-! DEFINITION. The operations of the block, one constructor per row of spec/opcode_table.json, with their operands, and
the forms in which an operation is requested (spec 30_encoding.md R85, R93, R95). -/

namespace Sys2Proof

/-- The two activities inside the block (R10). -/
inductive Activity where
  | sender
  | receiver
deriving DecidableEq, Repr

/-- The ten control-command names of the fixed opcode table (R85). -/
inductive ControlOp where
  | on
  | off
  | restoreLastAction
  | lock
  | unlock
  | activePowerLimit
  | reactivePowerLimit
  | powerFactor
  | lockAndAlarm
  | selfInspect
deriving DecidableEq, Repr

/-- What CMDFRAME wraps, by kind of frame (R155). -/
inductive CmdFrame where
  /-- A payload of BUILD_CONTROL, of a `CTRL.*` or of PLIMIT. -/
  | control (payload : Bytes)
  /-- A payload of TSYNC. -/
  | timesync (payload : Bytes)
  /-- A re-request of a missing index; its payload is empty. -/
  | rerequest (index : Byte)
deriving DecidableEq, Repr

/-- The field tuple of a raw inbound fragment (R79, R123). -/
structure Fragment where
  type : Byte
  dst : Word
  src : Word
  last : Bool
  index : BitVec 7
  body : Bytes
  crc8 : Byte
deriving DecidableEq, Repr

/-- The operations, one constructor per row of spec/opcode_table.json. -/
inductive Instr where
  /-- CTRL.ON (R141). -/
  | ctrlOn (data : Option Nat) (modifier : Nat)
  /-- CTRL.OFF (R142). -/
  | ctrlOff (data : Option Nat) (modifier : Nat)
  /-- CTRL.RESTORE_LAST_ACTION (R143). -/
  | ctrlRestoreLastAction (data : Option Nat) (modifier : Nat)
  /-- CTRL.LOCK (R144). -/
  | ctrlLock (data : Option Nat) (modifier : Nat)
  /-- CTRL.UNLOCK (R145). -/
  | ctrlUnlock (data : Option Nat) (modifier : Nat)
  /-- CTRL.ACTIVE_POWER_LIMIT (R146). -/
  | ctrlActivePowerLimit (data : Option Nat) (modifier : Nat)
  /-- CTRL.REACTIVE_POWER_LIMIT (R147). -/
  | ctrlReactivePowerLimit (data : Option Nat) (modifier : Nat)
  /-- CTRL.POWER_FACTOR (R148). -/
  | ctrlPowerFactor (data : Option Nat) (modifier : Nat)
  /-- CTRL.LOCK_AND_ALARM (R149). -/
  | ctrlLockAndAlarm (data : Option Nat) (modifier : Nat)
  /-- CTRL.SELF_INSPECT (R150). -/
  | ctrlSelfInspect (data : Option Nat) (modifier : Nat)
  /-- FID, the frame-id byte (R72). -/
  | fid (last : Bool) (index : BitVec 7)
  /-- FRAME, the wire frame layout; both checksums are determined by the other fields (R70). -/
  | frame (type : Byte) (dst src : Word) (last : Bool) (index : BitVec 7) (payload : Bytes)
  /-- CTRL2, the bare control command (R75). -/
  | ctrl2 (op : ControlOp)
  /-- CTRL6, the control command with data (R76). -/
  | ctrl6 (op : ControlOp) (data modifier : Half)
  /-- TS13, the time-sync payload (R77). -/
  | ts13 (unixSeconds : Word)
  /-- REQ0, the empty re-request payload (R78). -/
  | req0
  /-- RXFRAG, a raw inbound fragment with the CRC8 byte it carries (R79). -/
  | rxfrag (type : Byte) (dst src : Word) (last : Bool) (index : BitVec 7) (body : Bytes) (crc8 : Byte)
  /-- CRC16 (R100). -/
  | crc16 (bytes : Bytes)
  /-- CRC8 (R103). -/
  | crc8 (bytes : Bytes)
  /-- CHK8 (R106). -/
  | chk8 (raw : Bytes)
  /-- CHK16 (R107). -/
  | chk16 (message : Bytes)
  /-- ENCODE (R120). -/
  | encode (type : Byte) (dst src : Word) (fid : Byte) (payload : Bytes)
  /-- DECODE (R123). -/
  | decode (raw : Bytes)
  /-- BUILD_CONTROL (R140), its opcode given by number as a requester presents it. -/
  | buildControl (opcode : Nat) (data : Option Nat) (modifier : Nat)
  /-- PLIMIT (R151). -/
  | plimit (limitUnits : Nat) (relative persist : Bool)
  /-- TSYNC (R152). -/
  | tsync (unixSeconds : Word)
  /-- REQ (R153). -/
  | req
  /-- CMDFRAME (R155). -/
  | cmdframe (kind : CmdFrame)
  /-- RESETBUF (R160). -/
  | resetbuf
  /-- ARRIVE (R161); its `now` is the time counter sampled when the step runs. -/
  | arrive (index : BitVec 7) (last : Bool) (body : Bytes)
  /-- COMPLETE (R165). -/
  | complete
  /-- TICK (R166); its `now` is the time counter sampled when the step runs. -/
  | tick
  /-- ABANDON, the outcome of TICK with its own rule (R168). -/
  | abandon
  /-- REREQ_SEND: the steps `P_REREQ` and `P_STAMP` (R169). -/
  | rereqSend
  /-- ACQUIRE (R190). -/
  | acquire (a : Activity)
  /-- RELEASE (R191). -/
  | release (a : Activity)
  /-- SEND_TXN (R193). -/
  | sendTxn (a : Activity) (frame : Bytes)
  /-- RXCHK_TXN (R194). -/
  | rxchkTxn
  /-- STARTUP (R195). -/
  | startup
  /-- SYNC (R196). -/
  | sync
  /-- POLL (R197). -/
  | poll
  /-- DIAG (R198). -/
  | diag
deriving DecidableEq, Repr

/-- The formats of spec/opcode_table.json that have a bit pattern (R95). -/
inductive Format where
  /-- A control command read by its opcode: the CTRL rows, in CTRL2 or CTRL6 layout (R85). -/
  | ctrl
  | fid
  | frame
  | ctrl2
  | ctrl6
  | ts13
  | req0
  | rxfrag
deriving DecidableEq, Repr

/-- A request for an operation: the bytes of one of the formats, or, for an operation without a bit pattern, its name
with its arguments (R85, R93, R95). -/
inductive Request where
  | word (format : Format) (bytes : Bytes)
  | call (operation : Instr)
deriving DecidableEq, Repr

end Sys2Proof
end

