-- ==== Sys2Proof/Machine/Bytes.lean ====
section
/-! DEFINITION. Byte order, slices and the frame-id byte (spec 00_scope.md R11, R12; 20_memory.md R50, R53;
30_encoding.md R72). -/

namespace Sys2Proof.Machine

/-- `be16(v)` (R12): the high byte first. -/
def be16 (v : Half) : Bytes := [v.extractLsb' 8 8, v.extractLsb' 0 8]

/-- `be32(v)` (R12): the high byte first. -/
def be32 (v : Word) : Bytes := [v.extractLsb' 24 8, v.extractLsb' 16 8, v.extractLsb' 8 8, v.extractLsb' 0 8]

/-- `u16(B)` (R12): `B[0] * 256 + B[1]`, of two bytes. -/
def u16 (hi lo : Byte) : Half := hi ++ lo

/-- The 32-bit value of four bytes, most significant first (R50, R123). -/
def u32 (b0 b1 b2 b3 : Byte) : Word := b0 ++ b1 ++ b2 ++ b3

/-- `B[i]` (R11), and 0 past the end, where no rule reads it. -/
def byteAt (b : Bytes) (i : Nat) : Byte := b.getD i 0

/-- `B[i:j]` (R11): the bytes at offsets `i` up to but not including `j`. -/
def slice (b : Bytes) (i j : Nat) : Bytes := (b.drop i).take (j - i)

/-- The frame-id byte of a LAST bit and an index (R72): bit 7 is LAST, bits 6 to 0 the index. -/
def fidByte (last : Bool) (index : BitVec 7) : Byte := BitVec.ofBool last ++ index

/-- `LAST = fid[7]` (R72). -/
def fidLast (f : Byte) : Bool := f.getLsbD 7

/-- `index = fid[6:0]` (R72). -/
def fidIndex (f : Byte) : BitVec 7 := f.extractLsb' 0 7

end Sys2Proof.Machine
end

