-- ==== Sys2Proof/Machine/Operands.lean ====
section
/-! DEFINITION. The operand forms of the operations: the opcode numbers, the ranges an operand must fit, the limits that
follow from `MAX_FRAME_LEN` (spec 30_encoding.md R81, R85, R86; 42_command_payloads.md R140, R151; 00_scope.md R9). -/

namespace Sys2Proof

/-- `SLOT_CAP = MAX_FRAME_LEN - 11` (R9): the largest body a slot holds. -/
def Params.slotCap (c : Params) : Nat := c.maxFrameLen - 11

/-- `MAX_TX_PAYLOAD = MAX_FRAME_LEN - 13` (R9, R71). -/
def Params.maxTxPayload (c : Params) : Nat := c.maxFrameLen - 13

/-- `SYNC_FIRST_DELAY_MS`: 0 or 5000 (R9, D26). -/
def Params.syncFirstDelayMs (c : Params) : Word := if c.syncFirstDelayed then 5000 else 0

/-- `code(op)`: the numeric opcode (R85). -/
def ControlOp.code : ControlOp → Half
  | .on => 0
  | .off => 1
  | .restoreLastAction => 2
  | .lock => 3
  | .unlock => 4
  | .activePowerLimit => 11
  | .reactivePowerLimit => 12
  | .powerFactor => 13
  | .lockAndAlarm => 20
  | .selfInspect => 40

/-- The opcode name with a given number; every other number is reserved (R85, R86). -/
def ControlOp.ofCode (n : Nat) : Option ControlOp :=
  if n = 0 then some .on
  else if n = 1 then some .off
  else if n = 2 then some .restoreLastAction
  else if n = 3 then some .lock
  else if n = 4 then some .unlock
  else if n = 11 then some .activePowerLimit
  else if n = 12 then some .reactivePowerLimit
  else if n = 13 then some .powerFactor
  else if n = 20 then some .lockAndAlarm
  else if n = 40 then some .selfInspect
  else none

/-- The 16-bit field that holds an operand, or nothing when the operand does not fit (R140, D21). -/
def fitHalf (n : Nat) : Option Half := if n < 2 ^ 16 then some (BitVec.ofNat 16 n) else none

/-- An optional 16-bit operand: absent, or fitting its field; the outer `none` says that it does not fit (R140). -/
def fitData : Option Nat → Option (Option Half)
  | none => some none
  | some n => (fitHalf n).map some

/-- The data field of a power limit, `limitUnits * 20`, exact; nothing when `limitUnits` is above 3276 (R81, R151, R154). -/
def limitData (limitUnits : Nat) : Option Nat :=
  if limitUnits ≤ Config.maxLimitUnits then some (limitUnits * Config.plScale) else none

/-- The modifier of a power limit: bit 8 is `persist`, bit 0 is `relative` (R82). -/
def limitModifier (relative persist : Bool) : Nat :=
  (if persist then 0x0100 else 0) ||| (if relative then 0x0001 else 0)

/-- The slot indices that exist, 1 to 15 (R55, R72, R87). -/
def isSlotIndex (i : Nat) : Bool := decide (1 ≤ i) && decide (i ≤ Config.nSlots)

/-- The lengths a raw inbound fragment may have (R90, R125). -/
def Params.fragmentLengthOk (c : Params) (n : Nat) : Bool :=
  decide (Config.minFrameLen ≤ n) && decide (n ≤ c.maxFrameLen)

/-- `data` and `modifier` fit their 16-bit fields, and the bare form carries no modifier (R75, R76, R140). -/
def ctrlOperandsFit (data : Option Nat) (modifier : Nat) : Bool :=
  match data with
  | none => decide (modifier = 0)
  | some d => decide (d < 2 ^ 16) && decide (modifier < 2 ^ 16)

/-- A payload that BUILD_CONTROL can have produced: 2 or 6 bytes that begin with a defined opcode (R75, R76, R85). -/
def isControlPayload (p : Bytes) : Bool :=
  match p with
  | [a, b] => (ControlOp.ofCode (a ++ b).toNat).isSome
  | [a, b, _, _, _, _] => (ControlOp.ofCode (a ++ b).toNat).isSome
  | _ => false

/-- A payload that TSYNC can have produced (R77). -/
def isTimesyncPayload (p : Bytes) : Bool :=
  match p with
  | [a, b, _, _, _, _, c, d, e, f, g, h, i] =>
      decide ([a, b, c, d, e, f, g, h, i] = [0x0B, 0x00, 0x00, 0x00, 0x00, 0x05, 0x00, 0x00, 0x00])
  | _ => false

end Sys2Proof
end

