-- ==== Sys2Proof/Machine/Label.lean ====
section
/-! DEFINITION. The outcome labels (spec 60_exceptions.md R220): names for a model's trace. Nothing in the hardware stores
them and no operation reads them (R34, R227). -/

namespace Sys2Proof.Machine

/-- The outcome labels of R220. -/
inductive Label where
  /-- Done. -/
  | ok
  /-- A raw fragment shorter than 11 or longer than `MAX_FRAME_LEN` bytes (R125, R225). -/
  | dropLength
  /-- Cause (a): CHK8 false (R221). -/
  | dropCrc8
  /-- Frame-id index 0 or 16 to 127 (R87, R225). -/
  | dropIndex
  /-- Cause (b): CHK16 false (R222). -/
  | dropCrc16
  /-- Cause (c), retry budget left (R223). -/
  | rereq
  /-- Cause (c), retry budget spent (R168, R223). -/
  | abandon
  /-- Cause (d): `ack` false, ignored (R224). -/
  | sendUnacked
  /-- Opcode outside the table (R140, R226). -/
  | refuseBadOpcode
  /-- An operand that does not fit its field (R140, R151, R226). -/
  | refuseBadOperand
  /-- Payload longer than `MAX_TX_PAYLOAD` (R121, R226). -/
  | refusePayloadTooLong
  /-- A message was emitted as telemetry (R165). -/
  | completeOk
deriving DecidableEq, Repr

/-- The numeric codes of R220. -/
def Label.code : Label → Nat
  | .ok => 0
  | .dropLength => 1
  | .dropCrc8 => 2
  | .dropIndex => 3
  | .dropCrc16 => 4
  | .rereq => 5
  | .abandon => 6
  | .sendUnacked => 7
  | .refuseBadOpcode => 8
  | .refuseBadOperand => 9
  | .refusePayloadTooLong => 10
  | .completeOk => 11

end Sys2Proof.Machine
end

