-- ==== Sys2Proof/Machine/State.lean ====
section
/-! DEFINITION. The state of the block as plain data (spec 10_state.md R42), the model's own bookkeeping beside it, the
reasons a step can stop, and the state after reset (spec 70_reset_and_hazards.md R250 to R255). -/

namespace Sys2Proof.Machine

/-- `rstep`, the RECEIVER's step (R23). -/
inductive RStep where
  | pRxchk
  | pValidate
  | pStore
  | pComplete
  | pRetry
  | pRereq
  | pStamp
  | pSleep
deriving DecidableEq, Repr

/-- `sstep`, the SENDER's step (R23). -/
inductive SStep where
  | sStartup
  | sSync
  | sDiag
  | sSleep
deriving DecidableEq, Repr

/-- `lock`, the owner of the channel (R31). -/
inductive Lock where
  | free
  | sender
  | receiver
deriving DecidableEq, Repr

/-- How far an activity is in a send transaction (R193): the step it takes next. The spec names the steps and no register
for them; the two activities interleave at step granularity (R62), so the model holds the place. -/
inductive SendPhase where
  /-- No send transaction in progress. -/
  | idle
  /-- The frame is in the buffer; next `ACQUIRE`. -/
  | acquire
  /-- Next `chan.setListenMode(false)`. -/
  | leaveListen
  /-- Next `chan.sendFragment(F)`. -/
  | transmit
  /-- Next `chan.setListenMode(true)`. -/
  | restoreListen
  /-- Next `RELEASE`. -/
  | release
  /-- STARTUP only: the transaction is over (or was refused), the last two assignments of R195 are left. -/
  | finish
deriving DecidableEq, Repr

/-- How far the RECEIVER is in a receive-check transaction (R194): the step it takes next. -/
inductive RxPhase where
  /-- Not begun; next `ACQUIRE`. -/
  | idle
  /-- Next `chan.isFragmentAvailable()`. -/
  | query
  /-- Next `chan.readFragment()`. -/
  | read
  /-- Next `RELEASE`, with the result `got`. -/
  | release (got : Bool)
deriving DecidableEq, Repr

/-- A value an operation hands back to its caller (R20, R26: results are values, nothing latches them). -/
inductive Value where
  | bytes (b : Bytes)
  | half (v : Half)
  | byte (v : Byte)
  | bit (v : Bool)
  | fragment (f : Fragment)
deriving DecidableEq, Repr

/-- What the outside of the block can see of a step, and the labels a model's trace gives it (R34, R220, R242). -/
inductive Event where
  /-- The telemetry event (R34, R165). -/
  | telemetry (data : Bytes)
  /-- `chan.setListenMode(b)`, called by `a`. -/
  | setListenMode (a : Activity) (b : Bool)
  /-- `chan.isFragmentAvailable()`, called by `a`, and its answer. -/
  | isFragmentAvailable (a : Activity) (answer : Bool)
  /-- `chan.readFragment()`, called by `a`, and its answer. -/
  | readFragment (a : Activity) (answer : Bytes)
  /-- `chan.sendFragment(F)`, called by `a`, and its `ack`. -/
  | sendFragment (a : Activity) (frame : Bytes) (ack : Bool)
  /-- The result of a pure operation, or of a check, handed to its caller. -/
  | returned (v : Value)
  /-- The outcome label of the step (R220). -/
  | label (l : Label)
deriving DecidableEq, Repr

/-- Slot data, as cells (key, byte) with strictly rising keys and no cell that holds 0, which is what an unlisted key
reads as (assumption log 5). -/
abbrev Memory := List Host.Cell

/-- The machine's state. -/
structure State where
  /-- The configuration (R33, R255): written by nothing. -/
  cfg : Params
  /-- `present[1..15]`, at positions 0 to 14 (R25). -/
  present : Vector Bool 15
  /-- `slot_len[1..15]`, at positions 0 to 14 (R35). -/
  slotLen : Vector Nat 15
  /-- `slot_data[1..15]` (R35, R59). -/
  slotData : Memory
  /-- `expectedCount`, 0 to 16 (R28). -/
  expectedCount : BitVec 5
  /-- `retry` (R29). -/
  retry : BitVec 3
  /-- `last_activity` (R30). -/
  lastActivity : Word
  /-- `req_index`, 1 to 16 (R41). -/
  reqIndex : BitVec 5
  /-- `lock` (R31). -/
  lock : Lock
  /-- `listen` (R27). -/
  listen : Bool
  /-- `rstep` (R23). -/
  rstep : RStep
  /-- `sstep` (R23). -/
  sstep : SStep
  /-- `next_sync` (R32). -/
  nextSync : Word
  /-- `wake_R` (R32). -/
  wakeR : Word
  /-- `txbuf_S` with its length (R21). -/
  txbufS : Bytes
  /-- `txbuf_R` with its length (R21). -/
  txbufR : Bytes
  /-- `rxbuf`: the bytes of the raw fragment that fit (R21, R194). -/
  rxbuf : Bytes
  /-- `rxlen`: the length the channel returned (R21, R194). -/
  rxlen : Nat
  /-- MODEL: the SENDER's place in its send transaction (R62, R193). -/
  txnS : SendPhase
  /-- MODEL: the RECEIVER's place in its send transaction (R62, R193). -/
  txnR : SendPhase
  /-- MODEL: the RECEIVER's place in its receive-check transaction (R62, R194). -/
  rxPhase : RxPhase
  /-- MODEL: inside `P_SLEEP`, whether `wake_R` has been written (R197: written, then waited for). -/
  sleepArmed : Bool
  /-- ENVIRONMENT: what it presents to the current step, `now` among it (R13, R238, R243). -/
  port : Input
  /-- ENVIRONMENT: what it will present to the next steps; past the end the presented values are free. -/
  inputs : List Input
  /-- ENVIRONMENT: the HOST's requests not yet taken, first come first (R199). -/
  requests : List Request
  /-- MODEL: the number of steps taken; the free values are read at it. -/
  cycle : Nat
  /-- MODEL: what the block has shown the outside, oldest first, with the labels of R220 (D31). -/
  trace : List Event
deriving DecidableEq, Repr

/-- Why the machine stops. Closed; no step of a reachable state raises one (spec 60_exceptions.md, "No condition in this
core is fatal"). -/
inductive Fault where
  /-- RELEASE by an activity that does not own the lock: R191 says it "is not a step of the hardware". Raised by RELEASE
  and by the RELEASE step of a transaction. Safe: the model stops where the hardware has no behaviour. -/
  | releaseByNonOwner
deriving DecidableEq, Repr

/-- Why an operation has no meaning. Closed. -/
inductive Refusal where
  /-- Raised by `exec` alone, for an operation without a meaning yet. Safe: the model stops. -/
  | notModelled (mnemonic : String)
deriving DecidableEq, Repr

/-- The outcome of a meaning. -/
abbrev Result := Host.Outcome State Fault Refusal

/-- The machine right after reset (R250 to R253). A register R254 lists as unspecified holds 0, or is empty: assumption
log 4. -/
def State.reset : State where
  cfg := Config.board
  present := Vector.replicate 15 false
  slotLen := Vector.replicate 15 0
  slotData := []
  expectedCount := 0
  retry := 0
  lastActivity := 0
  reqIndex := 0
  lock := .free
  listen := true
  rstep := .pRxchk
  sstep := .sStartup
  nextSync := 0
  wakeR := 0
  txbufS := []
  txbufR := []
  rxbuf := []
  rxlen := 0
  txnS := .idle
  txnR := .idle
  rxPhase := .idle
  sleepArmed := false
  port := { turn := .sender, now := 0, unixSeconds := 0, available := false, fragment := [], ack := false }
  inputs := []
  requests := []
  cycle := 0
  trace := []

end Sys2Proof.Machine
end

