-- ==== Sys2Proof/Machine/Ops.lean ====
section
/-! DEFINITION. The named operations over memory and registers: slot memory (spec 20_memory.md R59), the trace, causes and
how the activity goes on after one (spec 60_exceptions.md R220 to R236), the per-activity registers, time. -/

namespace Sys2Proof.Machine

/-! ### Slot memory -/

/-- What a key that no cell lists reads as (assumption log 5). -/
def Memory.unlisted : Byte := 0

/-- The key of byte `offset` of slot `index` (R59). It numbers the pairs (index, offset) and is no address of the hardware
(D30; assumption log 5). -/
def slotKey (index offset : Nat) : Nat := offset * 16 + index

/-- Read one byte. -/
def Memory.read : Memory → Nat → Byte
  | [], _ => Memory.unlisted
  | (k, v) :: m, a => if k = a then v else Memory.read m a

/-- Write one byte, keeping the keys rising and no cell equal to what an unlisted key reads as. -/
def Memory.write : Memory → Nat → Byte → Memory
  | [], a, b => if b = Memory.unlisted then [] else [(a, b)]
  | (k, v) :: m, a, b =>
    if a < k then (if b = Memory.unlisted then (k, v) :: m else (a, b) :: (k, v) :: m)
    else if a = k then (if b = Memory.unlisted then m else (a, b) :: m)
    else (k, v) :: Memory.write m a b

/-- The canonical form of slot memory. -/
abbrev Memory.wf (m : Memory) : Prop :=
  m.Pairwise (fun x y => x.1 < y.1) ∧ ∀ c ∈ m, c.2 ≠ Memory.unlisted

/-- `MemWrite((index, offset), n, B)` (R12, R59). -/
def Memory.writeSlot (m : Memory) (index offset : Nat) : Bytes → Memory
  | [] => m
  | b :: bs => Memory.writeSlot (m.write (slotKey index offset) b) index (offset + 1) bs

/-- `MemRead((index, offset), n)` (R12, R59). -/
def Memory.readSlot (m : Memory) (index offset : Nat) : Nat → Bytes
  | 0 => []
  | n + 1 => m.read (slotKey index offset) :: Memory.readSlot m index (offset + 1) n

/-! ### Trace, causes -/

/-- Append to the trace. -/
def State.emit (s : State) (es : List Event) : State := { s with trace := s.trace ++ es }

/-- Raise a cause (R220, R233): the one way a drop, a refusal or a notice takes effect. Nothing is saved, no mode changes,
no handler runs (R233), nothing is recorded in the hardware (R227); the step gets its label in the trace. -/
def State.raise (s : State) (l : Label) : State := s.emit [.label l]

/-- Where the RECEIVER goes on after a cause (R235): the activity continues with its next step in order. -/
def State.resumeAt (s : State) (r : RStep) : State := { s with rstep := r }

/-- A pure operation's result goes to its caller, or its refusal is raised and nothing is produced (R14, R20, R226). -/
def State.answer (s : State) : Except Label Value → State
  | .ok v => s.emit [.returned v, .label .ok]
  | .error l => s.raise l

/-- Go on with the next state of a result. -/
def Result.andThen (r : Result) (f : State → State) : Result :=
  match r with
  | .next s => .next (f s)
  | .fault e => .fault e
  | .refused e => .refused e

/-! ### Time (R13, R30, R32, R238 to R241) -/

/-- The value of `now` the step samples (R13). -/
def State.now (s : State) : Word := s.port.now

/-- Elapsed time modulo 2^32 (R13, R240). -/
def elapsed (now since : Word) : Word := now - since

/-- `now` has reached a wake time (R196): `(now - wake) mod 2^32 < 2^31`. -/
def reached (now wake : Word) : Bool := decide ((now - wake).toNat < 2 ^ 31)

/-! ### The registers each activity has one of -/

/-- The lock value that names an activity (R31). -/
def ownerOf : Activity → Lock
  | .sender => .sender
  | .receiver => .receiver

/-- An activity's place in its send transaction. -/
def State.txn (s : State) : Activity → SendPhase
  | .sender => s.txnS
  | .receiver => s.txnR

/-- Move an activity to a place in its send transaction. -/
def State.setTxn (s : State) (a : Activity) (p : SendPhase) : State :=
  match a with
  | .sender => { s with txnS := p }
  | .receiver => { s with txnR := p }

/-- An activity's transmit buffer (R21). -/
def State.txbuf (s : State) : Activity → Bytes
  | .sender => s.txbufS
  | .receiver => s.txbufR

/-- Write an activity's transmit buffer whole (R21, R56). -/
def State.setTxbuf (s : State) (a : Activity) (f : Bytes) : State :=
  match a with
  | .sender => { s with txbufS := f }
  | .receiver => { s with txbufR := f }

end Sys2Proof.Machine
end

