-- ==== Sys2Proof/Machine/Flags.lean ====
section
/-! DEFINITION. The flags of the block: the presence bits (spec 10_state.md R25) and the listen mirror (R27). There is no
carry, overflow, zero or condition-code flag anywhere (R26). -/

namespace Sys2Proof.Machine

/-- `present[i]` (R25). There is no slot 0 and none above 15 (R35): such an index is never present. -/
def State.isPresent (s : State) (i : Nat) : Bool :=
  isSlotIndex i && (s.present[i - 1]?).getD false

/-- `present[i] <- 1` (R25, R161). -/
def State.setPresent (s : State) (i : Nat) : State :=
  { s with present := s.present.setIfInBounds (i - 1) true }

/-- Clear all 15 presence bits together (R25, R160). -/
def State.clearPresent (s : State) : State :=
  { s with present := Vector.replicate 15 false }

/-- `listen <- b`, with the channel call it mirrors (R27, R193). -/
def State.setListen (s : State) (a : Activity) (b : Bool) : State :=
  { s with listen := b }.emit [.setListenMode a b]

end Sys2Proof.Machine
end

