-- ==== Sys2Proof/Machine/Arbiter.lean ====
section
/-! DEFINITION. The channel arbiter's operations on the state: the lock, the steps of the send transaction and of the
receive-check transaction (spec 44_arbiter_control.md R190 to R194). -/

namespace Sys2Proof.Machine

/-- ACQUIRE (R190, R65): test and set in one indivisible step; nothing when the lock is held, and the caller waits. -/
def State.acquire (s : State) (a : Activity) : Option State :=
  if s.lock = .free then some { s with lock := ownerOf a } else none

/-- RELEASE (R191): only the owner releases. -/
def State.release (s : State) (a : Activity) : Result :=
  if s.lock = ownerOf a then .next { s with lock := .free } else .fault .releaseByNonOwner

/-- The label of a send: `ack` has no other effect (R193, R224). -/
def ackLabel (ack : Bool) : Label := if ack then .ok else .sendUnacked

/-- The next step of an activity's send transaction (R193): ACQUIRE, leave listen mode, transmit the buffer, restore
listen mode, RELEASE. While the lock is held the activity waits at ACQUIRE and nothing changes. -/
def sendStep (a : Activity) (s : State) : Result :=
  match s.txn a with
  | .idle => .next s
  | .acquire =>
    match s.acquire a with
    | some t => .next ((t.setTxn a .leaveListen).raise .ok)
    | none => .next s
  | .leaveListen => .next (((s.setListen a false).setTxn a .transmit).raise .ok)
  | .transmit =>
    .next (((s.emit [.sendFragment a (s.txbuf a) s.port.ack]).setTxn a .restoreListen).raise (ackLabel s.port.ack))
  | .restoreListen => .next (((s.setListen a true).setTxn a .release).raise .ok)
  | .release => (s.release a).andThen fun t => (t.setTxn a .idle).raise .ok
  | .finish => .next s

/-- `rxbuf <- chan.readFragment()` (R194): bytes past `MAX_FRAME_LEN` are not stored; the length is the returned one. -/
def State.readFragment (s : State) : State :=
  { s with rxbuf := s.port.fragment.take s.cfg.maxFrameLen, rxlen := s.port.fragment.length }.emit
    [.readFragment .receiver s.port.fragment]

/-- The next step of the RECEIVER's receive-check transaction (R194): ACQUIRE, the availability test, at most one read,
RELEASE. -/
def rxchkStep (s : State) : Result :=
  match s.rxPhase with
  | .idle =>
    match s.acquire .receiver with
    | some t => .next ({ t with rxPhase := .query }.raise .ok)
    | none => .next s
  | .query =>
    .next (({ s with rxPhase := if s.port.available then .read else .release false }.emit
      [.isFragmentAvailable .receiver s.port.available]).raise .ok)
  | .read => .next ({ s.readFragment with rxPhase := .release true }.raise .ok)
  | .release _ => (s.release .receiver).andThen fun t => { t with rxPhase := .idle }.raise .ok

end Sys2Proof.Machine
end

