-- ==== Sys2Proof/Machine/ExecArb.lean ====
section
/-! DEFINITION. The meanings of the arbiter's operations (spec 44_arbiter_control.md R190 to R194). -/

namespace Sys2Proof.Machine

/-- ACQUIRE (R190): the caller waits, and nothing changes, while the lock is held. -/
def execAcquire (a : Activity) (s : State) : Result :=
  match s.acquire a with
  | some t => .next (t.raise .ok)
  | none => .next s

/-- RELEASE (R191). -/
def execRelease (a : Activity) (s : State) : Result := (s.release a).andThen fun t => t.raise .ok

/-- A byte string fits a transmit buffer: its length is 11 to `MAX_FRAME_LEN` (R21). DESIGN CHOICE, unsafe (assumption log
28): only the length is tested, not that ENCODE could have built the bytes. -/
def frameFits (c : Params) (f : Bytes) : Bool :=
  decide (Config.minFrameLen ≤ f.length) && decide (f.length ≤ c.maxFrameLen)

/-- SEND_TXN's next step (R193). When no transaction of `a` is in progress the frame goes into `a`'s buffer, so that what
is sent is what was built before ACQUIRE (R66); then the five steps, one at a time. R193 takes only a frame that ENCODE
built; what happens with other bytes of a length that fits is open, and the model sends them as they are (DESIGN CHOICE,
unsafe: assumption log 28). -/
def execSendTxn (a : Activity) (frame : Bytes) (s : State) : Result :=
  match s.txn a with
  | .idle =>
    if frameFits s.cfg frame then .next (((s.setTxbuf a frame).setTxn a .acquire).raise .ok)
    else .next (s.raise .refuseBadOperand)
  | .acquire => sendStep a s
  | .leaveListen => sendStep a s
  | .transmit => sendStep a s
  | .restoreListen => sendStep a s
  | .release => sendStep a s
  | .finish => .next s

/-- RXCHK_TXN's next step (R194); with its RELEASE the result `got` goes to the caller. -/
def execRxchkTxn (s : State) : Result :=
  match s.rxPhase with
  | .release got => (rxchkStep s).andThen fun t => t.emit [.returned (.bit got)]
  | .idle => rxchkStep s
  | .query => rxchkStep s
  | .read => rxchkStep s

end Sys2Proof.Machine
end

