-- ==== Sys2Proof/Machine/Crc.lean ====
section
/-! DEFINITION. The checksum generator: CRC16, CRC8, CHK8, CHK16 as pure functions (spec 40_crc.md). -/

namespace Sys2Proof.Machine

/-- One inner step of R100: the register shifts right; the bit shifted out selects the reflected polynomial. -/
def crc16Shift (crc : Half) : Half :=
  if crc.getLsbD 0 then (crc >>> 1) ^^^ Config.crc16PolyReflected else crc >>> 1

/-- The inner loop of R100, `n` times. -/
def crc16Shifts : Nat → Half → Half
  | 0, crc => crc
  | n + 1, crc => crc16Shifts n (crc16Shift crc)

/-- One byte of R100: it enters the low 8 bits, then 8 inner steps. -/
def crc16Byte (crc : Half) (b : Byte) : Half := crc16Shifts 8 (crc ^^^ b.setWidth 16)

/-- The register after `b`, starting from `crc` (R102 b). -/
def crc16From (crc : Half) (b : Bytes) : Half := b.foldl crc16Byte crc

/-- CRC16 (R100). -/
def crc16 (b : Bytes) : Half := crc16From Config.crc16Init b

/-- One inner step of R103: left shift into nine bits, XOR with 0x101 when bit 7 was set, low 8 bits kept. -/
def crc8Shift (crc : Byte) : Byte :=
  if crc.getLsbD 7 then ((crc.setWidth 9 <<< 1) ^^^ Config.crc8Poly).setWidth 8
  else (crc.setWidth 9 <<< 1).setWidth 8

/-- The inner loop of R103, `n` times. -/
def crc8Shifts : Nat → Byte → Byte
  | 0, crc => crc
  | n + 1, crc => crc8Shifts n (crc8Shift crc)

/-- One byte of R103. -/
def crc8Byte (crc b : Byte) : Byte := crc8Shifts 8 (crc ^^^ b)

/-- CRC8 (R103). -/
def crc8 (b : Bytes) : Byte := b.foldl crc8Byte Config.crc8Init

/-- CHK8 (R106), for `len(raw) ≥ 1`. -/
def chk8 (raw : Bytes) : Bool :=
  crc8 (slice raw 0 (raw.length - 1)) == byteAt raw (raw.length - 1)

/-- CHK16 (R107). -/
def chk16 (m : Bytes) : Bool :=
  if m.length < 2 then false
  else crc16 (slice m 0 (m.length - 2)) == u16 (byteAt m (m.length - 2)) (byteAt m (m.length - 1))

end Sys2Proof.Machine
end

