-- ==== Sys2Proof/Machine/Payload.lean ====
section
/-! DEFINITION. The command payload builder as pure functions: BUILD_CONTROL, PLIMIT, TSYNC, REQ
(spec 42_command_payloads.md). A refusal is a label and no payload (R14, R226). -/

namespace Sys2Proof.Machine

/-- The payload of R140 once its operands fit: CTRL2 when `data` is absent (the modifier is then not emitted), CTRL6
otherwise. -/
def controlPayload (op : ControlOp) : Option Half → Half → Bytes
  | none, _ => be16 op.code
  | some d, m => be16 op.code ++ be16 d ++ be16 m

/-- BUILD_CONTROL for a named opcode (R140, R141 to R150). -/
def buildControlOp (op : ControlOp) (data : Option Nat) (modifier : Nat) : Except Label Bytes :=
  match fitData data, fitHalf modifier with
  | some d, some m => .ok (controlPayload op d m)
  | _, _ => .error .refuseBadOperand

/-- BUILD_CONTROL for an opcode presented by number (R140): a number outside the table is refused. -/
def buildControl (opcode : Nat) (data : Option Nat) (modifier : Nat) : Except Label Bytes :=
  match ControlOp.ofCode opcode with
  | some op => buildControlOp op data modifier
  | none => .error .refuseBadOpcode

/-- PLIMIT (R151). -/
def plimit (limitUnits : Nat) (relative persist : Bool) : Except Label Bytes :=
  match limitData limitUnits with
  | some d => buildControlOp .activePowerLimit (some d) (limitModifier relative persist)
  | none => .error .refuseBadOperand

/-- TSYNC (R152). -/
def tsync (unixSeconds : Word) : Bytes :=
  [0x0B, 0x00] ++ be32 unixSeconds ++ [0x00, 0x00, 0x00, 0x05, 0x00, 0x00, 0x00]

/-- REQ (R153). -/
def reqPayload : Bytes := []

/-- The 5-byte pipe address of an address (R244, R60): used at boot by the environment, outside the block. -/
def pipeAddress (address : Word) : Bytes := Config.pipePrefix :: be32 address

end Sys2Proof.Machine
end

