-- ==== Sys2Proof/Machine/Codec.lean ====
section
/-! DEFINITION. The frame codec as pure functions: the wire layout, ENCODE, DECODE, the receive validation pipeline,
CMDFRAME (spec 30_encoding.md R70; 41_frame_codec.md; 42_command_payloads.md R155). -/

namespace Sys2Proof.Machine

/-- The 10 header bytes (R70): type, destination, source, frame-id. -/
def headerBytes (type : Byte) (dst src : Word) (fid : Byte) : Bytes :=
  [type] ++ be32 dst ++ be32 src ++ [fid]

/-- The CRC16 field (R70): absent for an empty payload, else CRC16 of the payload, high byte first. -/
def crc16Field (payload : Bytes) : Bytes := if payload.isEmpty then [] else be16 (crc16 payload)

/-- Append the CRC8 of everything emitted so far (R120). -/
def sealCrc8 (b : Bytes) : Bytes := b ++ [crc8 b]

/-- The wire frame of R70 and R120, whatever the length of the payload. -/
def frameBytes (type : Byte) (dst src : Word) (fid : Byte) (payload : Bytes) : Bytes :=
  sealCrc8 (headerBytes type dst src fid ++ payload ++ crc16Field payload)

/-- ENCODE (R120): refused when the payload is longer than `MAX_TX_PAYLOAD` (R121 b). -/
def encodeFrame (c : Params) (type : Byte) (dst src : Word) (fid : Byte) (payload : Bytes) : Except Label Bytes :=
  if c.maxTxPayload < payload.length then .error .refusePayloadTooLong
  else .ok (frameBytes type dst src fid payload)

/-- The bytes of a raw inbound fragment with given fields (R79, format RXFRAG). -/
def fragmentBytes (f : Fragment) : Bytes :=
  headerBytes f.type f.dst f.src (fidByte f.last f.index) ++ f.body ++ [f.crc8]

/-- DECODE (R123), for `len(raw) ≥ 11`. -/
def decodeFragment (raw : Bytes) : Fragment where
  type := byteAt raw 0
  dst := u32 (byteAt raw 1) (byteAt raw 2) (byteAt raw 3) (byteAt raw 4)
  src := u32 (byteAt raw 5) (byteAt raw 6) (byteAt raw 7) (byteAt raw 8)
  last := fidLast (byteAt raw 9)
  index := fidIndex (byteAt raw 9)
  body := slice raw 10 (raw.length - 1)
  crc8 := byteAt raw (raw.length - 1)

/-- The three tests of R127 in their order (R231): length (of the byte string the channel returned), CRC8, index. -/
def validate (c : Params) (length : Nat) (raw : Bytes) : Except Label Fragment :=
  if !c.fragmentLengthOk length then .error .dropLength
  else if !chk8 raw then .error .dropCrc8
  else if !isSlotIndex (decodeFragment raw).index.toNat then .error .dropIndex
  else .ok (decodeFragment raw)

/-- CMDFRAME (R155): every frame goes to `PEER_ADDR` from `LOCAL_ADDR`; a command carries `FRAMEID_CMD`, a re-request
the missing index. R155 takes only payloads the builders give and, by R84, indices 1 to 16; any other payload or byte is
encoded as it is given (DESIGN CHOICE, unsafe: assumption log 27). -/
def commandFrame (c : Params) : CmdFrame → Except Label Bytes
  | .control p => encodeFrame c c.typeControl c.peerAddr c.localAddr Config.frameIdCmd p
  | .timesync p => encodeFrame c c.typeTimesync c.peerAddr c.localAddr Config.frameIdCmd p
  | .rerequest k => encodeFrame c c.typeRerequest c.peerAddr c.localAddr k reqPayload

/-- The startup power-limit frame (R195): PLIMIT, then ENCODE; a refusal of either is passed on. -/
def startupFrame (c : Params) : Except Label Bytes :=
  match plimit c.startupLimitUnits c.startupRelative c.startupPersist with
  | .ok p => commandFrame c (.control p)
  | .error l => .error l

end Sys2Proof.Machine
end

