-- ==== Sys2Proof/Machine/ExecBuild.lean ====
section
/-! DEFINITION. The meanings of the payload builders: the ten `CTRL.<name>`, BUILD_CONTROL, PLIMIT, TSYNC, REQ, CMDFRAME
(spec 42_command_payloads.md). -/

namespace Sys2Proof.Machine

/-- CTRL.ON (R141). -/
def execCtrlOn (data : Option Nat) (modifier : Nat) (s : State) : Result :=
  .next (s.answer ((buildControlOp .on data modifier).map .bytes))

/-- CTRL.OFF (R142). -/
def execCtrlOff (data : Option Nat) (modifier : Nat) (s : State) : Result :=
  .next (s.answer ((buildControlOp .off data modifier).map .bytes))

/-- CTRL.RESTORE_LAST_ACTION (R143). -/
def execCtrlRestoreLastAction (data : Option Nat) (modifier : Nat) (s : State) : Result :=
  .next (s.answer ((buildControlOp .restoreLastAction data modifier).map .bytes))

/-- CTRL.LOCK (R144). -/
def execCtrlLock (data : Option Nat) (modifier : Nat) (s : State) : Result :=
  .next (s.answer ((buildControlOp .lock data modifier).map .bytes))

/-- CTRL.UNLOCK (R145). -/
def execCtrlUnlock (data : Option Nat) (modifier : Nat) (s : State) : Result :=
  .next (s.answer ((buildControlOp .unlock data modifier).map .bytes))

/-- CTRL.ACTIVE_POWER_LIMIT (R146). -/
def execCtrlActivePowerLimit (data : Option Nat) (modifier : Nat) (s : State) : Result :=
  .next (s.answer ((buildControlOp .activePowerLimit data modifier).map .bytes))

/-- CTRL.REACTIVE_POWER_LIMIT (R147). -/
def execCtrlReactivePowerLimit (data : Option Nat) (modifier : Nat) (s : State) : Result :=
  .next (s.answer ((buildControlOp .reactivePowerLimit data modifier).map .bytes))

/-- CTRL.POWER_FACTOR (R148). -/
def execCtrlPowerFactor (data : Option Nat) (modifier : Nat) (s : State) : Result :=
  .next (s.answer ((buildControlOp .powerFactor data modifier).map .bytes))

/-- CTRL.LOCK_AND_ALARM (R149). -/
def execCtrlLockAndAlarm (data : Option Nat) (modifier : Nat) (s : State) : Result :=
  .next (s.answer ((buildControlOp .lockAndAlarm data modifier).map .bytes))

/-- CTRL.SELF_INSPECT (R150). -/
def execCtrlSelfInspect (data : Option Nat) (modifier : Nat) (s : State) : Result :=
  .next (s.answer ((buildControlOp .selfInspect data modifier).map .bytes))

/-- BUILD_CONTROL (R140). -/
def execBuildControl (opcode : Nat) (data : Option Nat) (modifier : Nat) (s : State) : Result :=
  .next (s.answer ((buildControl opcode data modifier).map .bytes))

/-- PLIMIT (R151). -/
def execPlimit (limitUnits : Nat) (relative persist : Bool) (s : State) : Result :=
  .next (s.answer ((plimit limitUnits relative persist).map .bytes))

/-- TSYNC (R152). -/
def execTsync (unixSeconds : Word) (s : State) : Result :=
  .next (s.answer (.ok (.bytes (tsync unixSeconds))))

/-- REQ (R153). -/
def execReq (s : State) : Result :=
  .next (s.answer (.ok (.bytes reqPayload)))

/-- CMDFRAME (R155). -/
def execCmdframe (kind : CmdFrame) (s : State) : Result :=
  .next (s.answer ((commandFrame s.cfg kind).map .bytes))

end Sys2Proof.Machine
end

