-- ==== Sys2Proof/Machine/ExecCodec.lean ====
section
/-! DEFINITION. The meanings of ENCODE and DECODE (spec 41_frame_codec.md). -/

namespace Sys2Proof.Machine

/-- ENCODE (R120, R121). -/
def execEncode (type : Byte) (dst src : Word) (fid : Byte) (payload : Bytes) (s : State) : Result :=
  .next (s.answer ((encodeFrame s.cfg type dst src fid payload).map .bytes))

/-- DECODE (R123). A raw fragment whose length is outside DECODE's domain is dropped before it (R125). -/
def execDecode (raw : Bytes) (s : State) : Result :=
  .next (s.answer
    (if s.cfg.fragmentLengthOk raw.length then .ok (.fragment (decodeFragment raw)) else .error .dropLength))

end Sys2Proof.Machine
end

