-- ==== Sys2Proof/Machine/ExecCrc.lean ====
section
/-! DEFINITION. The meanings of CRC16, CRC8, CHK8, CHK16: pure functions whose result goes to the caller
(spec 40_crc.md). -/

namespace Sys2Proof.Machine

/-- CRC16 (R100). -/
def execCrc16 (bytes : Bytes) (s : State) : Result := .next (s.answer (.ok (.half (crc16 bytes))))

/-- CRC8 (R103). -/
def execCrc8 (bytes : Bytes) (s : State) : Result := .next (s.answer (.ok (.byte (crc8 bytes))))

/-- CHK8 (R106). An empty `raw` has no last byte to compare with and is dropped by the length test, which stands before
every checksum (R125; assumption log 12). -/
def execChk8 (raw : Bytes) (s : State) : Result :=
  .next (s.answer (if raw.isEmpty then .error .dropLength else .ok (.bit (chk8 raw))))

/-- CHK16 (R107). -/
def execChk16 (message : Bytes) (s : State) : Result := .next (s.answer (.ok (.bit (chk16 message))))

end Sys2Proof.Machine
end

