-- ==== Sys2Proof/Machine/ExecFormats.lean ====
section
/-! DEFINITION. The meanings of the rows that are formats: the byte string the format lays out for its fields
(spec 30_encoding.md R70 to R79; assumption log 7). -/

namespace Sys2Proof.Machine

/-- FID (R72): any LAST bit and any index have their byte. -/
def execFid (last : Bool) (index : BitVec 7) (s : State) : Result :=
  .next (s.answer (.ok (.bytes [fidByte last index])))

/-- FRAME (R70): refused when the payload is longer than `MAX_TX_PAYLOAD` (R71). -/
def execFrame (type : Byte) (dst src : Word) (last : Bool) (index : BitVec 7) (payload : Bytes) (s : State) : Result :=
  .next (s.answer ((encodeFrame s.cfg type dst src (fidByte last index) payload).map .bytes))

/-- CTRL2 (R75). -/
def execCtrl2 (op : ControlOp) (s : State) : Result :=
  .next (s.answer (.ok (.bytes (be16 op.code))))

/-- CTRL6 (R76). -/
def execCtrl6 (op : ControlOp) (data modifier : Half) (s : State) : Result :=
  .next (s.answer (.ok (.bytes (be16 op.code ++ be16 data ++ be16 modifier))))

/-- TS13 (R77, R88). -/
def execTs13 (unixSeconds : Word) (s : State) : Result :=
  .next (s.answer (.ok (.bytes (tsync unixSeconds))))

/-- REQ0 (R78). -/
def execReq0 (s : State) : Result :=
  .next (s.answer (.ok (.bytes [])))

/-- RXFRAG (R79): a fragment longer than `MAX_FRAME_LEN` does not fit `rxbuf` (R90). -/
def execRxfrag (type : Byte) (dst src : Word) (last : Bool) (index : BitVec 7) (body : Bytes) (crc8 : Byte)
    (s : State) : Result :=
  let raw := fragmentBytes ⟨type, dst, src, last, index, body, crc8⟩
  .next (s.answer (if s.cfg.fragmentLengthOk raw.length then .ok (.bytes raw) else .error .dropLength))

end Sys2Proof.Machine
end

