-- ==== Sys2Proof/Machine/Reassembly.lean ====
section
/-! DEFINITION. The reassembly engine's operations on the state: RESETBUF, ARRIVE, COMPLETE, TICK with its outcomes
(spec 43_reassembly.md). -/

namespace Sys2Proof.Machine

/-- `slot_len[i]` (R35); an index that names no slot has length 0. -/
def State.slotLength (s : State) (i : Nat) : Nat := if isSlotIndex i then (s.slotLen[i - 1]?).getD 0 else 0

/-- `slot[i] = slot_data[i][0 : slot_len[i]]` (R35). -/
def State.slotBytes (s : State) (i : Nat) : Bytes := s.slotData.readSlot i 0 (s.slotLength i)

/-- RESETBUF (R160). `slot_len`, `slot_data`, `last_activity` and `req_index` are left as they are. -/
def State.resetbuf (s : State) : State :=
  { s.clearPresent with expectedCount := 0, retry := 0 }

/-- Begin a sequence when the engine is IDLE (R161, first lines). -/
def State.beginSequence (s : State) : State :=
  if s.expectedCount = 0 then s.resetbuf else s

/-- Store a body in a slot and mark it present (R59, R161). -/
def State.storeSlot (s : State) (index : Nat) (body : Bytes) : State :=
  { s with
    slotData := s.slotData.writeSlot index 0 body
    slotLen := s.slotLen.setIfInBounds (index - 1) body.length }.setPresent index

/-- The `expectedCount` update rule, exactly as written (R161, R163, R164). -/
def nextExpected (expected : BitVec 5) (index : Nat) (last : Bool) : BitVec 5 :=
  if last then BitVec.ofNat 5 index
  else if expected.toNat < index + 1 then BitVec.ofNat 5 (index + 1)
  else expected

/-- ARRIVE (R161) for an index of 1 to 15 and a body that fits its slot. -/
def State.arriveAt (s : State) (index : Nat) (last : Bool) (body : Bytes) : State :=
  let t := s.beginSequence.storeSlot index body
  { t with expectedCount := nextExpected t.expectedCount index last, lastActivity := t.now }

/-- ARRIVE on any operands: an index that addresses no slot and a body no slot holds never reach the slot file
(R55, R87, R162). No rule orders the two labels here: the index is tested first (DESIGN CHOICE: assumption log 8). -/
def State.arrive (s : State) (index : BitVec 7) (last : Bool) (body : Bytes) : State :=
  if !isSlotIndex index.toNat then s.raise .dropIndex
  else if s.cfg.slotCap < body.length then s.raise .dropLength
  else (s.arriveAt index.toNat last body).raise .ok

/-- COMPLETE's condition (R165). -/
def State.sequenceFull (s : State) : Bool :=
  decide (0 < s.expectedCount.toNat) && decide (s.expectedCount.toNat ≤ Config.nSlots) &&
    (List.range' 1 s.expectedCount.toNat).all s.isPresent

/-- The assembled message `M` (R165): slots 1 to `expectedCount`, in index order. -/
def State.message (s : State) : Bytes :=
  (List.range' 1 s.expectedCount.toNat).flatMap s.slotBytes

/-- COMPLETE (R165). -/
def State.complete (s : State) : State :=
  if s.sequenceFull then
    if chk16 s.message then
      s.resetbuf.emit [.telemetry (slice s.message 0 (s.message.length - 2)), .label .completeOk]
    else s.resetbuf.raise .dropCrc16
  else s.raise .ok

/-- The lowest index of `1..expectedCount` that is missing; 16 has no slot and counts as missing (R164, R167). -/
def State.lowestMissing (s : State) : Option Nat :=
  (List.range' 1 s.expectedCount.toNat).find? fun i => decide (i = 16) || !s.isPresent i

/-- The `req_index` TICK picks. A missing index exists in every reachable state (R167); where there is none the value is
free (assumption log 11). -/
def State.chosenIndex (s : State) : BitVec 5 :=
  match s.lowestMissing with
  | some i => BitVec.ofNat 5 i
  | none => Config.freeReqIndex s.cycle

/-- TICK's test: COLLECTING, and more than `TIMEOUT_MS` without activity (R166, R240). -/
def State.timedOut (s : State) : Bool :=
  decide (s.expectedCount ≠ 0) && decide (Config.timeoutMs < (elapsed s.now s.lastActivity).toNat)

/-- TICK's outcomes (R166). -/
inductive TickOutcome where
  | nop
  | abandon
  | rereq
deriving DecidableEq, Repr

/-- Which outcome TICK has: the abandon test stands after the increment and before the re-request (R166). -/
def State.tickOutcome (s : State) : TickOutcome :=
  if !s.timedOut then .nop
  else if Config.maxRetry < (s.retry + 1).toNat then .abandon
  else .rereq

/-- ABANDON (R168). -/
def State.abandon (s : State) : State := s.resetbuf.raise .abandon

/-- REREQ (R166, R167): one more retry, the lowest missing index, and the RECEIVER goes to `P_REREQ`. -/
def State.decideRereq (s : State) : State :=
  { s with retry := s.retry + 1, reqIndex := s.chosenIndex, rstep := .pRereq }.raise .rereq

/-- TICK (R166). -/
def State.tick (s : State) : State :=
  match s.tickOutcome with
  | .nop => s.raise .ok
  | .abandon => s.abandon
  | .rereq => s.decideRereq

/-- The re-request frame (R167, R169). -/
def State.rereqFrame (s : State) : Except Label Bytes :=
  commandFrame s.cfg (.rerequest (s.reqIndex.setWidth 8))

end Sys2Proof.Machine
end

