-- ==== Sys2Proof/Machine/ExecReasm.lean ====
section
/-! DEFINITION. The meanings of the reassembly engine's operations (spec 43_reassembly.md). -/

namespace Sys2Proof.Machine

/-- RESETBUF (R160). -/
def execResetbuf (s : State) : Result := .next (s.resetbuf.raise .ok)

/-- ARRIVE (R161, R162). -/
def execArrive (index : BitVec 7) (last : Bool) (body : Bytes) (s : State) : Result :=
  .next (s.arrive index last body)

/-- COMPLETE (R165). -/
def execComplete (s : State) : Result := .next s.complete

/-- TICK (R166). -/
def execTick (s : State) : Result := .next s.tick

/-- ABANDON (R168), as TICK's outcome runs it. R95 and R168 make it only an outcome of TICK and give it no effect elsewhere;
run by itself it clears the engine in every state (DESIGN CHOICE, unsafe: assumption log 29). -/
def execAbandon (s : State) : Result := .next s.abandon

/-- The RECEIVER's next step in `P_REREQ` or `P_STAMP` (R169). In `P_REREQ`: the frame is built into `txbuf_R`, then the
send transaction runs step by step; its RELEASE leads to `P_STAMP`. In `P_STAMP`: `last_activity <- now`, sampled after
the transaction, and on to `P_SLEEP`. At any other step of the RECEIVER it is not this operation's turn, and it waits. -/
def rereqStep (s : State) : Result :=
  match s.rstep with
  | .pRereq =>
    match s.txnR with
    | .idle =>
      match s.rereqFrame with
      | .ok f => .next ((({ s with txbufR := f }).setTxn .receiver .acquire).raise .ok)
      | .error l => .next ((s.raise l).resumeAt .pStamp)
    | .release => (sendStep .receiver s).andThen fun t => t.resumeAt .pStamp
    | .acquire => sendStep .receiver s
    | .leaveListen => sendStep .receiver s
    | .transmit => sendStep .receiver s
    | .restoreListen => sendStep .receiver s
    | .finish => .next s
  | .pStamp => .next ((({ s with lastActivity := s.now, sleepArmed := false }).resumeAt .pSleep).raise .ok)
  | _ => .next s

/-- REREQ_SEND (R169). -/
def execRereqSend (s : State) : Result := rereqStep s

end Sys2Proof.Machine
end

