-- ==== Sys2Proof/Machine/ExecSeq.lean ====
section
/-! DEFINITION. The meanings of the two activities' sequences: STARTUP, SYNC, DIAG (the SENDER) and POLL (the RECEIVER).
Each call takes the activity's next step, so that the two interleave at step granularity (spec 20_memory.md R62;
44_arbiter_control.md R195 to R198). -/

namespace Sys2Proof.Machine

/-- STARTUP's next step (R195): build the power-limit frame, run its send transaction, then set `next_sync` and leave
`S_STARTUP`. A refused limit sends nothing and the loop starts (D20), by the same end (DEDUCED: assumption log 25).
After `S_STARTUP` the sequence never runs again (R24); a call then changes nothing (DESIGN CHOICE: log 14). -/
def execStartup (s : State) : Result :=
  match s.sstep with
  | .sStartup =>
    match s.txnS with
    | .idle =>
      match startupFrame s.cfg with
      | .ok f => .next ((({ s with txbufS := f }).setTxn .sender .acquire).raise .ok)
      | .error l => .next ((s.setTxn .sender .finish).raise l)
    | .acquire => sendStep .sender s
    | .leaveListen => sendStep .sender s
    | .transmit => sendStep .sender s
    | .restoreListen => sendStep .sender s
    | .release => (sendStep .sender s).andThen fun t => t.setTxn .sender .finish
    | .finish =>
      .next ({ s with
        nextSync := s.now + s.cfg.syncFirstDelayMs
        sstep := if 0 < s.cfg.syncFirstDelayMs.toNat then .sSleep else .sSync
        txnS := .idle }.raise .ok)
  | .sSync => .next s
  | .sDiag => .next s
  | .sSleep => .next s

/-- The channel-diagnostics query (R198): it reads and writes no state of the block. -/
def State.diag (s : State) : State := s

/-- DIAG (R198, D25). -/
def execDiag (s : State) : Result := .next (s.diag.raise .ok)

/-- SYNC's next step (R196). `S_SYNC`: sample `unixSeconds`, build the time-sync frame, run its send transaction; its
RELEASE leads to `S_DIAG`. `S_DIAG`: DIAG, then `next_sync` and `S_SLEEP`. `S_SLEEP`: leave when `now` has reached
`next_sync`; until then, and while a host frame is being sent (DESIGN CHOICE: assumption log 2), wait. In `S_STARTUP` the
loop has not begun, and a call changes nothing (DESIGN CHOICE: log 14). -/
def execSync (s : State) : Result :=
  match s.sstep with
  | .sStartup => .next s
  | .sSync =>
    match s.txnS with
    | .idle =>
      match commandFrame s.cfg (.timesync (tsync s.port.unixSeconds)) with
      | .ok f => .next ((({ s with txbufS := f }).setTxn .sender .acquire).raise .ok)
      | .error l => .next ({ s with sstep := .sDiag }.raise l)
    | .acquire => sendStep .sender s
    | .leaveListen => sendStep .sender s
    | .transmit => sendStep .sender s
    | .restoreListen => sendStep .sender s
    | .release => (sendStep .sender s).andThen fun t => { t with sstep := .sDiag }
    | .finish => .next s
  | .sDiag => .next ({ s.diag with nextSync := s.now + Config.syncIntervalMs, sstep := .sSleep }.raise .ok)
  | .sSleep =>
    if s.txnS = .idle ∧ reached s.now s.nextSync then .next ({ s with sstep := .sSync }.raise .ok)
    else .next s

/-- POLL's next step (R197), by `rstep`. The RECEIVER takes no step until the SENDER has left `S_STARTUP` (R24, R257). -/
def execPoll (s : State) : Result :=
  if s.sstep = .sStartup then .next s
  else
    match s.rstep with
    | .pRxchk =>
      match s.rxPhase with
      | .release got => (rxchkStep s).andThen fun t => t.resumeAt (if got then .pValidate else .pRetry)
      | .idle => rxchkStep s
      | .query => rxchkStep s
      | .read => rxchkStep s
    | .pValidate =>
      match validate s.cfg s.rxlen s.rxbuf with
      | .ok _ => .next ((s.raise .ok).resumeAt .pStore)
      | .error l => .next ((s.raise l).resumeAt .pRetry)
    | .pStore =>
      .next ((s.arrive (decodeFragment s.rxbuf).index (decodeFragment s.rxbuf).last
        (decodeFragment s.rxbuf).body).resumeAt .pComplete)
    | .pComplete => .next (s.complete.resumeAt .pRetry)
    | .pRetry =>
      match s.tickOutcome with
      | .rereq => .next s.tick
      | .nop => .next ({ s.tick with sleepArmed := false }.resumeAt .pSleep)
      | .abandon => .next ({ s.tick with sleepArmed := false }.resumeAt .pSleep)
    | .pRereq => rereqStep s
    | .pStamp => rereqStep s
    | .pSleep =>
      if s.sleepArmed then
        if reached s.now s.wakeR then .next (({ s with sleepArmed := false }.resumeAt .pRxchk).raise .ok)
        else .next s
      else .next ({ s with wakeR := s.now + Config.tickMs, sleepArmed := true }.raise .ok)

end Sys2Proof.Machine
end

