-- ==== Sys2Proof/Machine/Dispatch.lean ====
section
/-! DEFINITION. The dispatch: one arm per operation. -/

namespace Sys2Proof.Machine
open Sys2Proof

/-- The meaning of an operation. -/
def exec (i : Instr) (s : State) : Host.Outcome State Fault Refusal :=
  match i with
  | .ctrlOn data modifier => Sys2Proof.Machine.execCtrlOn data modifier s
  | .ctrlOff data modifier => Sys2Proof.Machine.execCtrlOff data modifier s
  | .ctrlRestoreLastAction data modifier => Sys2Proof.Machine.execCtrlRestoreLastAction data modifier s
  | .ctrlLock data modifier => Sys2Proof.Machine.execCtrlLock data modifier s
  | .ctrlUnlock data modifier => Sys2Proof.Machine.execCtrlUnlock data modifier s
  | .ctrlActivePowerLimit data modifier => Sys2Proof.Machine.execCtrlActivePowerLimit data modifier s
  | .ctrlReactivePowerLimit data modifier => Sys2Proof.Machine.execCtrlReactivePowerLimit data modifier s
  | .ctrlPowerFactor data modifier => Sys2Proof.Machine.execCtrlPowerFactor data modifier s
  | .ctrlLockAndAlarm data modifier => Sys2Proof.Machine.execCtrlLockAndAlarm data modifier s
  | .ctrlSelfInspect data modifier => Sys2Proof.Machine.execCtrlSelfInspect data modifier s
  | .fid last index => Sys2Proof.Machine.execFid last index s
  | .frame type dst src last index payload => Sys2Proof.Machine.execFrame type dst src last index payload s
  | .ctrl2 op => Sys2Proof.Machine.execCtrl2 op s
  | .ctrl6 op data modifier => Sys2Proof.Machine.execCtrl6 op data modifier s
  | .ts13 unixSeconds => Sys2Proof.Machine.execTs13 unixSeconds s
  | .req0 => Sys2Proof.Machine.execReq0 s
  | .rxfrag type dst src last index body crc8 => Sys2Proof.Machine.execRxfrag type dst src last index body crc8 s
  | .crc16 bytes => Sys2Proof.Machine.execCrc16 bytes s
  | .crc8 bytes => Sys2Proof.Machine.execCrc8 bytes s
  | .chk8 raw => Sys2Proof.Machine.execChk8 raw s
  | .chk16 message => Sys2Proof.Machine.execChk16 message s
  | .encode type dst src fid payload => Sys2Proof.Machine.execEncode type dst src fid payload s
  | .decode raw => Sys2Proof.Machine.execDecode raw s
  | .buildControl opcode data modifier => Sys2Proof.Machine.execBuildControl opcode data modifier s
  | .plimit limitUnits relative persist => Sys2Proof.Machine.execPlimit limitUnits relative persist s
  | .tsync unixSeconds => Sys2Proof.Machine.execTsync unixSeconds s
  | .req => Sys2Proof.Machine.execReq s
  | .cmdframe kind => Sys2Proof.Machine.execCmdframe kind s
  | .resetbuf => Sys2Proof.Machine.execResetbuf s
  | .arrive index last body => Sys2Proof.Machine.execArrive index last body s
  | .complete => Sys2Proof.Machine.execComplete s
  | .tick => Sys2Proof.Machine.execTick s
  | .abandon => Sys2Proof.Machine.execAbandon s
  | .rereqSend => Sys2Proof.Machine.execRereqSend s
  | .acquire a => Sys2Proof.Machine.execAcquire a s
  | .release a => Sys2Proof.Machine.execRelease a s
  | .sendTxn a frame => Sys2Proof.Machine.execSendTxn a frame s
  | .rxchkTxn => Sys2Proof.Machine.execRxchkTxn s
  | .startup => Sys2Proof.Machine.execStartup s
  | .sync => Sys2Proof.Machine.execSync s
  | .poll => Sys2Proof.Machine.execPoll s
  | .diag => Sys2Proof.Machine.execDiag s

end Sys2Proof.Machine
end

