-- ==== Sys2Proof/WellFormed.lean ====
section
/-! DEFINITION. Which operations are inside the operand domains the spec states. An operation outside its domain still
has a meaning: a refusal or a drop (R14), but for CMDFRAME, whose operands are then encoded as given (assumption log 27).
Well-formedness is what an encoding can hold. -/

namespace Sys2Proof

/-- The operand domain of CMDFRAME (R155; an index of 1 to 16, R84). Outside it: assumption log 27. -/
def CmdFrame.wellFormed : CmdFrame → Bool
  | .control p => isControlPayload p
  | .timesync p => isTimesyncPayload p
  | .rerequest k => decide (1 ≤ k.toNat) && decide (k.toNat ≤ 16)

/-- The operand domains the spec states, as far as they do not depend on `MAX_FRAME_LEN`. -/
def Instr.wellFormed : Instr → Bool
  | .ctrlOn d m => ctrlOperandsFit d m
  | .ctrlOff d m => ctrlOperandsFit d m
  | .ctrlRestoreLastAction d m => ctrlOperandsFit d m
  | .ctrlLock d m => ctrlOperandsFit d m
  | .ctrlUnlock d m => ctrlOperandsFit d m
  | .ctrlActivePowerLimit d m => ctrlOperandsFit d m
  | .ctrlReactivePowerLimit d m => ctrlOperandsFit d m
  | .ctrlPowerFactor d m => ctrlOperandsFit d m
  | .ctrlLockAndAlarm d m => ctrlOperandsFit d m
  | .ctrlSelfInspect d m => ctrlOperandsFit d m
  | .fid _ _ => true
  | .frame _ _ _ _ _ _ => true
  | .ctrl2 _ => true
  | .ctrl6 _ _ _ => true
  | .ts13 _ => true
  | .req0 => true
  | .rxfrag _ _ _ _ _ _ _ => true
  | .crc16 _ => true
  | .crc8 _ => true
  | .chk8 raw => decide (1 ≤ raw.length)
  | .chk16 _ => true
  | .encode _ _ _ _ _ => true
  | .decode raw => decide (Config.minFrameLen ≤ raw.length)
  | .buildControl op d m => (ControlOp.ofCode op).isSome && decide (d.getD 0 < 2 ^ 16) && decide (m < 2 ^ 16)
  | .plimit n _ _ => decide (n ≤ Config.maxLimitUnits)
  | .tsync _ => true
  | .req => true
  | .cmdframe k => k.wellFormed
  | .resetbuf => true
  | .arrive i _ _ => decide (1 ≤ i.toNat) && decide (i.toNat ≤ Config.nSlots)
  | .complete => true
  | .tick => true
  | .abandon => true
  | .rereqSend => true
  | .acquire _ => true
  | .release _ => true
  | .sendTxn _ f => decide (Config.minFrameLen ≤ f.length)
  | .rxchkTxn => true
  | .startup => true
  | .sync => true
  | .poll => true
  | .diag => true

end Sys2Proof
end

