-- ==== Sys2Proof/Decode.lean ====
section
/-! DEFINITION. Decode and encode: from the bit patterns of spec/30_encoding.md to operations and back. The block's other
operations have no bit pattern (R85, R95); a request names them. -/

namespace Sys2Proof
open Machine

/-- Why a byte string is no operation of a format. -/
inductive DecodeError where
  /-- No layout of the format has this length. -/
  | badLength
  /-- A reserved opcode value (R86). -/
  | reservedOpcode
  /-- A fixed byte of TS13 has another value (R77). -/
  | badMarker
  /-- The CRC16 field of a FRAME is not the CRC16 of its payload (R70). -/
  | badCrc16
  /-- The last byte of a FRAME is not the CRC8 of the bytes before it (R70). -/
  | badCrc8
deriving DecidableEq, Repr

/-- The `CTRL.<name>` operation of an opcode name (R85, R94). -/
def ctrlInstr (op : ControlOp) (data : Option Nat) (modifier : Nat) : Instr :=
  match op with
  | .on => .ctrlOn data modifier
  | .off => .ctrlOff data modifier
  | .restoreLastAction => .ctrlRestoreLastAction data modifier
  | .lock => .ctrlLock data modifier
  | .unlock => .ctrlUnlock data modifier
  | .activePowerLimit => .ctrlActivePowerLimit data modifier
  | .reactivePowerLimit => .ctrlReactivePowerLimit data modifier
  | .powerFactor => .ctrlPowerFactor data modifier
  | .lockAndAlarm => .ctrlLockAndAlarm data modifier
  | .selfInspect => .ctrlSelfInspect data modifier

/-- Look an opcode field up in the table of R85; reserved values are rejected by name (R86). -/
def withOpcode (opcode : Half) (k : ControlOp → Instr) : Except DecodeError Instr :=
  match ControlOp.ofCode opcode.toNat with
  | some op => .ok (k op)
  | none => .error .reservedOpcode

/-- A control command, CTRL2 or CTRL6 layout, read by its opcode (R75, R76, R85). -/
def decodeCtrl : Bytes → Except DecodeError Instr
  | [a, b] => withOpcode (u16 a b) fun op => ctrlInstr op none 0
  | [a, b, c, d, e, f] => withOpcode (u16 a b) fun op => ctrlInstr op (some (u16 c d).toNat) (u16 e f).toNat
  | _ => .error .badLength

/-- Format FID (R72). -/
def decodeFid : Bytes → Except DecodeError Instr
  | [b] => .ok (.fid (fidLast b) (fidIndex b))
  | _ => .error .badLength

/-- Format CTRL2 (R75). -/
def decodeCtrl2 : Bytes → Except DecodeError Instr
  | [a, b] => withOpcode (u16 a b) fun op => .ctrl2 op
  | _ => .error .badLength

/-- Format CTRL6 (R76). -/
def decodeCtrl6 : Bytes → Except DecodeError Instr
  | [a, b, c, d, e, f] => withOpcode (u16 a b) fun op => .ctrl6 op (u16 c d) (u16 e f)
  | _ => .error .badLength

/-- Format TS13 (R77). -/
def decodeTs13 (b : Bytes) : Except DecodeError Instr :=
  if b.length ≠ 13 then .error .badLength
  else if !isTimesyncPayload b then .error .badMarker
  else .ok (.ts13 (u32 (byteAt b 2) (byteAt b 3) (byteAt b 4) (byteAt b 5)))

/-- Format REQ0 (R78). -/
def decodeReq0 : Bytes → Except DecodeError Instr
  | [] => .ok .req0
  | _ => .error .badLength

/-- Format RXFRAG (R79): any byte string of at least 11 bytes. -/
def decodeRxfrag (b : Bytes) : Except DecodeError Instr :=
  if b.length < Config.minFrameLen then .error .badLength
  else
    let f := decodeFragment b
    .ok (.rxfrag f.type f.dst f.src f.last f.index f.body f.crc8)

/-- Format FRAME (R70): 11 bytes, or at least 14 (R71); both checksum fields must be those of the other fields. -/
def decodeFrame (b : Bytes) : Except DecodeError Instr :=
  let f := decodeFragment b
  if !chk8 b then .error .badCrc8
  else if b.length = 11 then .ok (.frame f.type f.dst f.src f.last f.index [])
  else if b.length < 14 then .error .badLength
  else if !chk16 f.body then .error .badCrc16
  else .ok (.frame f.type f.dst f.src f.last f.index (slice f.body 0 (f.body.length - 2)))

/-- The bytes of a format as an operation; every byte string is either an operation or rejected by name. -/
def decodeBytes : Format → Bytes → Except DecodeError Instr
  | .ctrl, b => decodeCtrl b
  | .fid, b => decodeFid b
  | .frame, b => decodeFrame b
  | .ctrl2, b => decodeCtrl2 b
  | .ctrl6, b => decodeCtrl6 b
  | .ts13, b => decodeTs13 b
  | .req0, b => decodeReq0 b
  | .rxfrag, b => decodeRxfrag b

/-- A request as an operation. -/
def decode : Request → Except DecodeError Instr
  | .word f b => decodeBytes f b
  | .call i => .ok i

/-! ### The encoder -/

/-- The bytes of a control command (R75, R76). -/
def ctrlRequest (op : ControlOp) (data : Option Nat) (modifier : Nat) : Request :=
  .word .ctrl (controlPayload op (data.map (BitVec.ofNat 16)) (BitVec.ofNat 16 modifier))

/-- The words of an operation, written from the tables of 30_encoding.md; an operation without a bit pattern is
requested by name. -/
def encode : Instr → Request
  | .ctrlOn d m => ctrlRequest .on d m
  | .ctrlOff d m => ctrlRequest .off d m
  | .ctrlRestoreLastAction d m => ctrlRequest .restoreLastAction d m
  | .ctrlLock d m => ctrlRequest .lock d m
  | .ctrlUnlock d m => ctrlRequest .unlock d m
  | .ctrlActivePowerLimit d m => ctrlRequest .activePowerLimit d m
  | .ctrlReactivePowerLimit d m => ctrlRequest .reactivePowerLimit d m
  | .ctrlPowerFactor d m => ctrlRequest .powerFactor d m
  | .ctrlLockAndAlarm d m => ctrlRequest .lockAndAlarm d m
  | .ctrlSelfInspect d m => ctrlRequest .selfInspect d m
  | .fid l i => .word .fid [fidByte l i]
  | .frame t d s l i p => .word .frame (frameBytes t d s (fidByte l i) p)
  | .ctrl2 op => .word .ctrl2 (be16 op.code)
  | .ctrl6 op d m => .word .ctrl6 (be16 op.code ++ be16 d ++ be16 m)
  | .ts13 u => .word .ts13 (tsync u)
  | .req0 => .word .req0 []
  | .rxfrag t d s l i b k => .word .rxfrag (fragmentBytes ⟨t, d, s, l, i, b, k⟩)
  | .crc16 b => .call (.crc16 b)
  | .crc8 b => .call (.crc8 b)
  | .chk8 b => .call (.chk8 b)
  | .chk16 b => .call (.chk16 b)
  | .encode t d s f p => .call (.encode t d s f p)
  | .decode b => .call (.decode b)
  | .buildControl o d m => .call (.buildControl o d m)
  | .plimit n r p => .call (.plimit n r p)
  | .tsync u => .call (.tsync u)
  | .req => .call .req
  | .cmdframe k => .call (.cmdframe k)
  | .resetbuf => .call .resetbuf
  | .arrive i l b => .call (.arrive i l b)
  | .complete => .call .complete
  | .tick => .call .tick
  | .abandon => .call .abandon
  | .rereqSend => .call .rereqSend
  | .acquire a => .call (.acquire a)
  | .release a => .call (.release a)
  | .sendTxn a f => .call (.sendTxn a f)
  | .rxchkTxn => .call .rxchkTxn
  | .startup => .call .startup
  | .sync => .call .sync
  | .poll => .call .poll
  | .diag => .call .diag

/-! ### The opcode table's numbering of words -/

/-- `n` bytes of a number, the least significant first: table words of one byte each. -/
def bytesLow : Nat → Nat → Bytes
  | 0, _ => []
  | n + 1, w => BitVec.ofNat 8 w :: bytesLow n (w / 256)

/-- `n` 16-bit words of a number, the first word least significant, each stored high byte first (R50). -/
def halvesBig : Nat → Nat → Bytes
  | 0, _ => []
  | n + 1, w => be16 (BitVec.ofNat 16 w) ++ halvesBig n (w / 65536)

/-- The request a table word stands for, by the number of bits its row gives: the 16-bit opcode of the CTRL rows, the
48-bit CTRL6 row, the 8-bit FID row, the 104-bit TS13 row, the empty REQ0 row, and a frame for every longer string. -/
def tableRequest (nbits w : Nat) : Request :=
  if nbits = 0 then .word .req0 []
  else if nbits = 8 then .word .fid (bytesLow 1 w)
  else if nbits = 16 then .word .ctrl (halvesBig 1 w)
  else if nbits = 48 then .word .ctrl6 (halvesBig 3 w)
  else if nbits = 104 then .word .ts13 (bytesLow 13 w)
  else
    match decodeFrame (bytesLow (nbits / 8) w) with
    | .ok _ => .word .frame (bytesLow (nbits / 8) w)
    | .error _ => .word .rxfrag (bytesLow (nbits / 8) w)

/-- The operation the decoder reads from a table word (fixed name of the host). -/
def decodeTableWord (nbits w : Nat) : Option Instr :=
  match decode (tableRequest nbits w) with
  | .ok i => some i
  | .error _ => none

end Sys2Proof
end

