-- ==== Sys2Proof/Machine/Select.lean ====
section
/-! DEFINITION. What the machine runs next: the block executes no stored program (spec 00_scope.md R2); the sequencers
select an activity's operation (10_state.md R23), and a HOST request is read from the request list
(44_arbiter_control.md R199; assumption log 2). -/

namespace Sys2Proof.Machine

/-- Take what the environment presents to this step: the next lined-up input, or, past the end, a free one (R13, R243;
assumption log 3). -/
def State.sample (s : State) : State :=
  match s.inputs with
  | x :: rest => { s with port := x, inputs := rest, cycle := s.cycle + 1 }
  | [] => { s with port := Config.freeInput s.cycle, cycle := s.cycle + 1 }

/-- The operation the SENDER is at (R23, R195, R196): STARTUP, the SYNC loop, or, while it sleeps, the host frame it is
sending (R199). -/
def State.senderOp (s : State) : Instr :=
  match s.sstep with
  | .sStartup => .startup
  | .sSync => .sync
  | .sDiag => .sync
  | .sSleep => if s.txnS = .idle then .sync else .sendTxn .sender s.txbufS

/-- The operations the HOST may request: the pure functions, and a frame to be sent through the SENDER (R199). Every other
operation belongs to one of the two activities (R36, R237). -/
def hostMay : Instr → Bool
  | .ctrlOn _ _ => true
  | .ctrlOff _ _ => true
  | .ctrlRestoreLastAction _ _ => true
  | .ctrlLock _ _ => true
  | .ctrlUnlock _ _ => true
  | .ctrlActivePowerLimit _ _ => true
  | .ctrlReactivePowerLimit _ _ => true
  | .ctrlPowerFactor _ _ => true
  | .ctrlLockAndAlarm _ _ => true
  | .ctrlSelfInspect _ _ => true
  | .fid _ _ => true
  | .frame _ _ _ _ _ _ => true
  | .ctrl2 _ => true
  | .ctrl6 _ _ _ => true
  | .ts13 _ => true
  | .req0 => true
  | .rxfrag _ _ _ _ _ _ _ => true
  | .crc16 _ => true
  | .crc8 _ => true
  | .chk8 _ => true
  | .chk16 _ => true
  | .encode _ _ _ _ _ => true
  | .decode _ => true
  | .buildControl _ _ _ => true
  | .plimit _ _ _ => true
  | .tsync _ => true
  | .req => true
  | .cmdframe _ => true
  | .resetbuf => false
  | .arrive _ _ _ => false
  | .complete => false
  | .tick => false
  | .abandon => false
  | .rereqSend => false
  | .acquire _ => false
  | .release _ => false
  | .sendTxn .sender _ => true
  | .sendTxn .receiver _ => false
  | .rxchkTxn => false
  | .startup => false
  | .sync => false
  | .poll => false
  | .diag => false

/-- A host frame is taken when the SENDER is in its loop, between rounds, with no transaction in progress (R199, R257;
assumption log 2); every pure function at any time. -/
def State.hostReady (s : State) : Instr → Bool
  | .sendTxn _ _ => decide (s.sstep = .sSleep) && decide (s.txnS = .idle)
  | _ => true

/-- The label of a request that is no operation (R226; assumption log 2). -/
def rejectLabel : DecodeError → Label
  | .badLength => .refuseBadOperand
  | .reservedOpcode => .refuseBadOpcode
  | .badMarker => .refuseBadOperand
  | .badCrc16 => .refuseBadOperand
  | .badCrc8 => .refuseBadOperand

/-- What a step does once its input is taken: run an operation, or none. -/
inductive Selected where
  | run (i : Instr) (s : State)
  | quiet (s : State)
deriving DecidableEq, Repr

/-- The HOST's turn (R199): its first request is read and decoded. One that is no operation the HOST may ask for is refused
and the requester goes on (R226); a frame waits while the SENDER is busy. -/
def State.selectHost (s : State) : Selected :=
  match s.requests with
  | [] => .quiet s
  | r :: rest =>
    match decode r with
    | .error e => .quiet ({ s with requests := rest }.raise (rejectLabel e))
    | .ok i =>
      if !hostMay i then .quiet ({ s with requests := rest }.raise .refuseBadOpcode)
      else if s.hostReady i then .run i { s with requests := rest }
      else .quiet s

/-- Whose turn it is, and the operation that one is at. -/
def State.select (s : State) : Selected :=
  match s.port.turn with
  | .sender => .run s.senderOp s
  | .receiver => .run .poll s
  | .host => s.selectHost

end Sys2Proof.Machine
end

