-- ==== Sys2Proof/Machine/Step.lean ====
section
/-! DEFINITION. One step of the machine, and the placing of a table word where the next step reads its operation. -/

namespace Sys2Proof.Machine
open Sys2Proof

/-- One step (R62): the environment presents its values, the machine selects an operation, the operation runs. -/
def step (s : State) : Host.Outcome State Fault Refusal :=
  match s.sample.select with
  | .run i t => exec i t
  | .quiet t => .next t

/-- Place a table word as the HOST's first request, and line up an input that gives the HOST the next turn (assumption
log 2). -/
def State.withFetchWord (s : State) (nbits w : Nat) : State :=
  { s with
    requests := tableRequest nbits w :: s.requests
    inputs := { s.port with turn := .host } :: s.inputs }

end Sys2Proof.Machine
end

