-- ==== Sys2Proof/Safety.lean ====
section
/-! DEFINITION. What a good state of the block is, in the terms the statements use: the arbiter's and the engine's
invariants (spec 44_arbiter_control.md R200; 43_reassembly.md R173; 60_exceptions.md section 1), which registers are dead
(70_reset_and_hazards.md R254), and runs of operations. -/

namespace Sys2Proof.Machine
open Sys2Proof

/-- The places of a send transaction at which its activity owns the lock (R193). -/
def SendPhase.holds : SendPhase → Bool
  | .idle => false
  | .acquire => false
  | .leaveListen => true
  | .transmit => true
  | .restoreListen => true
  | .release => true
  | .finish => false

/-- The places of a send transaction at which the channel is out of listen mode (R193). -/
def SendPhase.outOfListen : SendPhase → Bool
  | .idle => false
  | .acquire => false
  | .leaveListen => false
  | .transmit => true
  | .restoreListen => true
  | .release => false
  | .finish => false

/-- The places of a send transaction at which its frame is in the buffer (R193, R66). -/
def SendPhase.loaded : SendPhase → Bool
  | .idle => false
  | .acquire => true
  | .leaveListen => true
  | .transmit => true
  | .restoreListen => true
  | .release => true
  | .finish => false

/-- The places of a receive-check transaction at which the RECEIVER owns the lock (R194). -/
def RxPhase.holds : RxPhase → Bool
  | .idle => false
  | .query => true
  | .read => true
  | .release _ => true

/-- The arbiter's invariant (R200 a, b, c; R24, R257): the lock is owned exactly by the activity that is inside a
transaction, the listen mirror is 0 exactly between the two `setListenMode` calls, and each activity is inside a
transaction only at the steps that run one. -/
structure State.ArbiterInv (s : State) : Prop where
  sender_owns : s.lock = .sender ↔ s.txnS.holds = true
  receiver_owns : s.lock = .receiver ↔ (s.txnR.holds || s.rxPhase.holds) = true
  listen_mirror : s.listen = !(s.txnS.outOfListen || s.txnR.outOfListen)
  rxchk_step : s.rxPhase ≠ .idle → s.rstep = .pRxchk
  rereq_step : s.txnR ≠ .idle → s.rstep = .pRereq ∧ s.txnR ≠ .finish
  send_step : s.txnS ≠ .idle → s.sstep ≠ .sDiag
  finish_step : s.txnS = .finish → s.sstep = .sStartup
  startup_first : s.sstep = .sStartup → s.rstep = .pRxchk ∧ s.rxPhase = .idle ∧ s.txnR = .idle ∧ s.expectedCount = 0
  sender_loaded : s.txnS.loaded = true → frameFits s.cfg s.txbufS = true
  receiver_loaded : s.txnR.loaded = true → frameFits s.cfg s.txbufR = true

/-- The engine's invariant (R173 a to f, h; R28, R29, R41; R35): between the completion check and the next arrival some
index is missing, a present slot has an index of 1 to 15 (by `State.isPresent`) and a body that fits. -/
structure State.EngineInv (s : State) : Prop where
  expected_le : s.expectedCount.toNat ≤ 16
  retry_le : s.retry.toNat ≤ 5
  idle_empty : s.expectedCount = 0 → s.present = Vector.replicate 15 false ∧ s.retry = 0
  collecting_present : s.expectedCount ≠ 0 → ∃ i, s.isPresent i = true
  collecting_missing : s.expectedCount ≠ 0 → s.rstep ≠ .pComplete → s.lowestMissing.isSome = true
  req_index : s.rstep = .pRereq → 1 ≤ s.reqIndex.toNat ∧ s.reqIndex.toNat ≤ 16
  slot_fits : ∀ i, s.isPresent i = true → s.slotLength i ≤ s.cfg.slotCap
  store_validated : s.rstep = .pStore → ∃ f, validate s.cfg s.rxlen s.rxbuf = .ok f
  rx_length : s.rxbuf.length = min s.rxlen s.cfg.maxFrameLen
  memory_wf : s.slotData.wf

/-- The machine's invariant: the arbiter's, the engine's, and a frame length that holds the block's own frames (D6). -/
structure State.Inv (s : State) : Prop where
  frame_len : 26 ≤ s.cfg.maxFrameLen
  arbiter : s.ArbiterInv
  engine : s.EngineInv

/-- The activity that makes a channel call, when an event is one. -/
def Event.caller : Event → Option Activity
  | .telemetry _ => none
  | .setListenMode a _ => some a
  | .isFragmentAvailable a _ => some a
  | .readFragment a _ => some a
  | .sendFragment a _ _ => some a
  | .returned _ => none
  | .label _ => none

/-- `t` is `s` with what the environment presents to this step taken (R13, R243): the next lined-up input, or, past the
end of the list, the free one of this step's number (assumption log 3). -/
def State.TakesInput (s t : State) : Prop :=
  (∃ x rest, s.inputs = x :: rest ∧ t = { s with port := x, inputs := rest, cycle := s.cycle + 1 }) ∨
  (s.inputs = [] ∧ t = { s with port := Config.freeInput s.cycle, cycle := s.cycle + 1 })

/-- Run one operation `n` times, stopping at the first fault or refusal: a resumable operation taken to its end with
nothing between its steps. -/
def execTimes : Nat → Instr → State → Result
  | 0, _, s => .next s
  | n + 1, i, s =>
    match exec i s with
    | .next t => execTimes n i t
    | .fault e => .fault e
    | .refused e => .refused e

/-- Run operations one after another, stopping at the first fault or refusal. -/
def execAll : List Instr → State → Result
  | [], s => .next s
  | i :: is, s =>
    match exec i s with
    | .next t => execAll is t
    | .fault e => .fault e
    | .refused e => .refused e

/-- Two states that agree on everything the block can read before it writes it again; the registers R254 lists as
unspecified after reset may differ wherever the block is at a place that never reads them first. -/
structure State.LiveEq (s t : State) : Prop where
  cfg : s.cfg = t.cfg
  present : s.present = t.present
  expectedCount : s.expectedCount = t.expectedCount
  retry : s.retry = t.retry
  lock : s.lock = t.lock
  listen : s.listen = t.listen
  rstep : s.rstep = t.rstep
  sstep : s.sstep = t.sstep
  txnS : s.txnS = t.txnS
  txnR : s.txnR = t.txnR
  rxPhase : s.rxPhase = t.rxPhase
  sleepArmed : s.sleepArmed = t.sleepArmed
  inputs : s.inputs = t.inputs
  requests : s.requests = t.requests
  cycle : s.cycle = t.cycle
  trace : s.trace = t.trace
  slots : s.expectedCount ≠ 0 → ∀ i, s.isPresent i = true → s.slotBytes i = t.slotBytes i
  lastActivity : s.expectedCount ≠ 0 → s.lastActivity = t.lastActivity
  reqIndex : s.rstep = .pRereq → s.txnR = .idle → s.reqIndex = t.reqIndex
  nextSync : s.sstep = .sSleep → s.nextSync = t.nextSync
  wakeR : s.rstep = .pSleep → s.sleepArmed = true → s.wakeR = t.wakeR
  txbufS : s.txnS.loaded = true → s.txbufS = t.txbufS
  txbufR : s.txnR.loaded = true → s.txbufR = t.txbufR
  received : s.rstep = .pValidate ∨ s.rstep = .pStore ∨ s.rxPhase = .release true →
    s.rxbuf = t.rxbuf ∧ s.rxlen = t.rxlen

/-- `s` with the RECEIVER's private state (R62) taken from `r`. -/
def State.withReceiverOf (s r : State) : State :=
  { s with
    present := r.present
    slotLen := r.slotLen
    slotData := r.slotData
    expectedCount := r.expectedCount
    retry := r.retry
    lastActivity := r.lastActivity
    reqIndex := r.reqIndex
    rxbuf := r.rxbuf
    rxlen := r.rxlen
    txbufR := r.txbufR
    rstep := r.rstep
    wakeR := r.wakeR
    txnR := r.txnR
    rxPhase := r.rxPhase
    sleepArmed := r.sleepArmed }

/-- `s` with the SENDER's private state (R62) taken from `r`. -/
def State.withSenderOf (s r : State) : State :=
  { s with
    txbufS := r.txbufS
    sstep := r.sstep
    nextSync := r.nextSync
    txnS := r.txnS }

/-- The arrivals of the fragments of one message in a given order (R171): fragment `N` alone is terminal, each arrival is
followed by the completion check. -/
def deliveries (bodies : List Bytes) (order : List Nat) : List Instr :=
  order.flatMap fun j =>
    [.arrive (BitVec.ofNat 7 j) (decide (j = bodies.length)) (bodies.getD (j - 1) []), .complete]

/-- What BUILD_CONTROL's result rule says of an operation with one fixed opcode (R140, R141 to R150): the bare form, the
data form, the refusal. -/
def controlResult (mk : Option Nat → Nat → Instr) (code : Half) (s : State) : Prop :=
  (∀ m, m < 2 ^ 16 →
    exec (mk none m) s = .next { s with trace := s.trace ++ [.returned (.bytes (be16 code)), .label .ok] }) ∧
  (∀ d m, d < 2 ^ 16 → m < 2 ^ 16 →
    exec (mk (some d) m) s = .next { s with
      trace := s.trace ++
        [.returned (.bytes (be16 code ++ be16 (BitVec.ofNat 16 d) ++ be16 (BitVec.ofNat 16 m))), .label .ok] }) ∧
  (∀ data m, 2 ^ 16 ≤ m ∨ (∃ d, data = some d ∧ 2 ^ 16 ≤ d) →
    exec (mk data m) s = .next { s with trace := s.trace ++ [.label .refuseBadOperand] })

end Sys2Proof.Machine
end

