-- ==== Sys2Proof/Certificates/Slice0/Obligations.lean ====
section
/-! DEFINITION. The statements for the provers, each a proposition about the machine; OBLIGATIONS.json lists them with the
rules of spec/ they rest on. The `trace` of a next state is the model's record of what the step showed the outside, with
the label of R220 (assumption log 6): where a statement is of a rule of spec/, its clause about `trace` is the model's way
of writing "the result is" and "the channel call is". -/

open Sys2Proof Sys2Proof.Machine

/-! ### The checksum generator (40_crc.md) -/

/-- R100: CRC16 hands its caller the register after the reflected loop over all bytes, started at 0xFFFF. -/
def Obligations.Crc16RunsTheReflectedLoop : Prop :=
  (∀ (b : Bytes) (s : State),
    exec (.crc16 b) s = .next { s with
      trace := s.trace ++
        [.returned (.half (b.foldl (fun crc x =>
          (fun r : Half => if r.getLsbD 0 then (r >>> 1) ^^^ 0xA001#16 else r >>> 1)^[8] (crc ^^^ x.setWidth 16))
          0xFFFF#16)), .label .ok] }) ∧
  crc16 [0x31, 0x32, 0x33, 0x34, 0x35, 0x36, 0x37, 0x38, 0x39] = 0x4B37

/-- R102 (a), (b), (d), (e): the empty string, streaming over any cut, and the fixed values. -/
def Obligations.Crc16StreamsAndFixedValues : Prop :=
  crc16 [] = 0xFFFF ∧
  (∀ a b : Bytes, crc16 (a ++ b) = crc16From (crc16 a) b) ∧
  crc16 [0x00] = 0x40BF ∧ crc16 [0x00, 0x00] = 0xB001 ∧ crc16 [0x01] = 0x807E ∧ crc16 [0x02] = 0x813E ∧
  crc16 [0x0B] = 0x87FE ∧ crc16 [0x80] = 0xE0BE ∧ crc16 [0xFF] = 0x00FF ∧ crc16 [0xFF, 0xFF] = 0x0000

/-- R102 (f): a change of exactly one bit changes the CRC16, whatever the string, the byte and the bit. -/
def Obligations.Crc16ChangesOnSingleBitFlip : Prop :=
  ∀ (front back : Bytes) (x : Byte) (j : Nat), j < 8 →
    crc16 (front ++ (x ^^^ (1#8 <<< j)) :: back) ≠ crc16 (front ++ x :: back)

/-- R103: CRC8 hands its caller the register after the left-shifting loop over all bytes, started at 0. -/
def Obligations.Crc8RunsTheLeftShiftingLoop : Prop :=
  (∀ (b : Bytes) (s : State),
    exec (.crc8 b) s = .next { s with
      trace := s.trace ++
        [.returned (.byte (b.foldl (fun crc x =>
          (fun r : Byte => if r.getLsbD 7 then ((r.setWidth 9 <<< 1) ^^^ 0x101#9).setWidth 8
            else (r.setWidth 9 <<< 1).setWidth 8)^[8] (crc ^^^ x)) 0x00#8)), .label .ok] }) ∧
  crc8 [0x31, 0x32, 0x33, 0x34, 0x35, 0x36, 0x37, 0x38, 0x39] = 0x31

/-- R104 and R105: CRC8 is the XOR of all bytes; the empty and the one-byte string, streaming, the sealed string, zero
bytes, and its blindness to the order of bytes. -/
def Obligations.Crc8IsXorOfAllBytes : Prop :=
  (∀ b : Bytes, crc8 b = b.foldl (· ^^^ ·) 0) ∧
  crc8 [] = 0x00 ∧
  (∀ x : Byte, crc8 [x] = x) ∧
  (∀ a b : Bytes, crc8 (a ++ b) = crc8 a ^^^ crc8 b) ∧
  (∀ f : Bytes, crc8 (f ++ [crc8 f]) = 0x00) ∧
  (∀ a b : Bytes, crc8 (a ++ 0x00 :: b) = crc8 (a ++ b)) ∧
  (∀ a b : Bytes, a.Perm b → crc8 a = crc8 b)

/-- R106: CHK8 compares the CRC8 of all bytes but the last with the last; equally, the CRC8 of all bytes with 0. -/
def Obligations.Chk8ComparesTheLastByte : Prop :=
  (∀ (front : Bytes) (last : Byte) (s : State),
    exec (.chk8 (front ++ [last])) s = .next { s with
      trace := s.trace ++ [.returned (.bit (decide (crc8 front = last))), .label .ok] }) ∧
  (∀ (front : Bytes) (last : Byte), crc8 front = last ↔ crc8 (front ++ [last]) = 0x00) ∧
  chk8 [0x15, 0x72, 0x22, 0x01, 0x43, 0x80, 0x12, 0x34, 0x56, 0x02, 0xF5] = true

/-- R107: CHK16 is false below two bytes, and otherwise compares the CRC16 of all bytes but the last two with those two,
high byte first. -/
def Obligations.Chk16ComparesBigEndian : Prop :=
  (∀ (m : Bytes) (s : State), m.length < 2 →
    exec (.chk16 m) s = .next { s with trace := s.trace ++ [.returned (.bit false), .label .ok] }) ∧
  (∀ (d : Bytes) (hi lo : Byte) (s : State),
    exec (.chk16 (d ++ [hi, lo])) s = .next { s with
      trace := s.trace ++
        [.returned (.bit (decide ((crc16 d).toNat = hi.toNat * 256 + lo.toNat))), .label .ok] }) ∧
  (∀ hi lo : Byte, chk16 [hi, lo] = true ↔ hi = 0xFF ∧ lo = 0xFF) ∧
  chk16 [0x00, 0x0B, 0x01, 0xF4, 0x00, 0x00, 0xD4, 0xE5] = true

/-- R108 with R102 (f): a payload followed by its own CRC16 passes CHK16, and fails it once any one payload bit flips. -/
def Obligations.Chk16AcceptsAppendedCrc : Prop :=
  (∀ p : Bytes, chk16 (p ++ be16 (crc16 p)) = true) ∧
  (∀ (front back : Bytes) (x : Byte) (j : Nat), j < 8 →
    chk16 (front ++ (x ^^^ (1#8 <<< j)) :: back ++ be16 (crc16 (front ++ x :: back))) = false)

/-! ### The frame codec (41_frame_codec.md) -/

/-- R120: ENCODE hands its caller the header, the payload, the CRC16 of a non-empty payload, and the CRC8 of everything
before it; a payload above `MAX_TX_PAYLOAD` is refused. -/
def Obligations.EncodeEmitsTheWireFrame : Prop :=
  (∀ (type : Byte) (dst src : Word) (fid : Byte) (p : Bytes) (s : State), p.length ≤ s.cfg.maxFrameLen - 13 →
    exec (.encode type dst src fid p) s = .next { s with
      trace := s.trace ++
        [.returned (.bytes
          (let f := [type] ++ be32 dst ++ be32 src ++ [fid] ++ p ++ (if 0 < p.length then be16 (crc16 p) else [])
           f ++ [crc8 f])), .label .ok] }) ∧
  (∀ (type : Byte) (dst src : Word) (fid : Byte) (p : Bytes) (s : State), s.cfg.maxFrameLen - 13 < p.length →
    exec (.encode type dst src fid p) s = .next { s with trace := s.trace ++ [.label .refusePayloadTooLong] }) ∧
  frameBytes 0x51 0x72220143 0x80123456 0x81 [0x00, 0x0B, 0x01, 0xF4, 0x00, 0x00] =
    [0x51, 0x72, 0x22, 0x01, 0x43, 0x80, 0x12, 0x34, 0x56, 0x81, 0x00, 0x0B, 0x01, 0xF4, 0x00, 0x00, 0xD4, 0xE5, 0xFD]

/-- R122: every frame ENCODE gives passes CHK8, has 11 or at least 14 bytes, begins with the header, carries a body that
passes CHK16 when its payload is not empty; and ENCODE is injective. -/
def Obligations.EncodedFrameLaws : Prop :=
  (∀ (c : Params) (type : Byte) (dst src : Word) (fid : Byte) (p f : Bytes),
    encodeFrame c type dst src fid p = .ok f →
      chk8 f = true ∧ (f.length = 11 ∨ 14 ≤ f.length) ∧
      f.take 10 = [type] ++ be32 dst ++ be32 src ++ [fid] ∧
      (p ≠ [] → chk16 ((f.drop 10).take (f.length - 11)) = true)) ∧
  (∀ (c : Params) (type type' : Byte) (dst dst' src src' : Word) (fid fid' : Byte) (p p' f : Bytes),
    encodeFrame c type dst src fid p = .ok f → encodeFrame c type' dst' src' fid' p' = .ok f →
      type = type' ∧ dst = dst' ∧ src = src' ∧ fid = fid' ∧ p = p')

/-- R123: DECODE splits a raw fragment at the fixed offsets of the wire layout. -/
def Obligations.DecodeSplitsAtFixedOffsets : Prop :=
  (∀ (raw : Bytes) (s : State), 11 ≤ raw.length → raw.length ≤ s.cfg.maxFrameLen →
    exec (.decode raw) s = .next { s with
      trace := s.trace ++
        [.returned (.fragment
          { type := raw.getD 0 0
            dst := BitVec.ofNat 32 ((raw.getD 1 0).toNat * 2 ^ 24 + (raw.getD 2 0).toNat * 2 ^ 16 +
              (raw.getD 3 0).toNat * 2 ^ 8 + (raw.getD 4 0).toNat)
            src := BitVec.ofNat 32 ((raw.getD 5 0).toNat * 2 ^ 24 + (raw.getD 6 0).toNat * 2 ^ 16 +
              (raw.getD 7 0).toNat * 2 ^ 8 + (raw.getD 8 0).toNat)
            last := (raw.getD 9 0).getLsbD 7
            index := BitVec.ofNat 7 ((raw.getD 9 0).toNat % 128)
            body := (raw.drop 10).take (raw.length - 11)
            crc8 := raw.getD (raw.length - 1) 0 }), .label .ok] }) ∧
  decodeFragment [0x95, 0x80, 0x12, 0x34, 0x56, 0x72, 0x22, 0x01, 0x43, 0x83, 0x20, 0x21, 0x22, 0x23, 0x50, 0x22, 0x86] =
    { type := 0x95, dst := 0x80123456, src := 0x72220143, last := true, index := 3,
      body := [0x20, 0x21, 0x22, 0x23, 0x50, 0x22], crc8 := 0x86 }

/-- R128: DECODE of an encoded frame gives back its fields; its body is the payload with its CRC16, or nothing. -/
def Obligations.DecodeOfEncodedFrame : Prop :=
  ∀ (c : Params) (type : Byte) (dst src : Word) (fid : Byte) (p f : Bytes),
    encodeFrame c type dst src fid p = .ok f →
      decodeFragment f =
        { type := type, dst := dst, src := src, last := fid.getLsbD 7, index := fid.extractLsb' 0 7,
          body := if p = [] then [] else p ++ be16 (crc16 p), crc8 := crc8 (f.take (f.length - 1)) }

/-! ### The payload builder (42_command_payloads.md) -/

/-- R141 to R150: each of the ten control commands gives 2 bytes without data and 6 with data, for its own opcode, and
refuses an operand that does not fit 16 bits; with the rules' own CRC16 values and frames. That a bare command, which
carries no modifier, is refused too when its modifier does not fit is the model's choice (assumption log 9). -/
def Obligations.ControlCommandsBuildTheirPayloads : Prop :=
  ∀ s : State,
    controlResult .ctrlOn 0 s ∧ controlResult .ctrlOff 1 s ∧ controlResult .ctrlRestoreLastAction 2 s ∧
    controlResult .ctrlLock 3 s ∧ controlResult .ctrlUnlock 4 s ∧ controlResult .ctrlActivePowerLimit 11 s ∧
    controlResult .ctrlReactivePowerLimit 12 s ∧ controlResult .ctrlPowerFactor 13 s ∧
    controlResult .ctrlLockAndAlarm 20 s ∧ controlResult .ctrlSelfInspect 40 s ∧
    crc16 [0x00, 0x00] = 0xB001 ∧ crc16 [0x00, 0x01] = 0x70C0 ∧ crc16 [0x00, 0x02] = 0x7180 ∧
    crc16 [0x00, 0x03] = 0xB141 ∧ crc16 [0x00, 0x04] = 0x7300 ∧ crc16 [0x00, 0x0B] = 0x7740 ∧
    crc16 [0x00, 0x0C] = 0xB501 ∧ crc16 [0x00, 0x0D] = 0x75C0 ∧ crc16 [0x00, 0x14] = 0xBF01 ∧
    crc16 [0x00, 0x28] = 0xAE01 ∧ crc16 [0x00, 0x0B, 0x01, 0xF4, 0x00, 0x00] = 0xD4E5 ∧
    crc16 [0x00, 0x0D, 0x12, 0x34, 0x00, 0x01] = 0xACA8 ∧
    frameBytes 0x51 0x72220143 0x80123456 0x81 [0x00, 0x00] =
      [0x51, 0x72, 0x22, 0x01, 0x43, 0x80, 0x12, 0x34, 0x56, 0x81, 0x00, 0x00, 0xB0, 0x01, 0x83] ∧
    frameBytes 0x51 0x72220143 0x80123456 0x81 [0x00, 0x28] =
      [0x51, 0x72, 0x22, 0x01, 0x43, 0x80, 0x12, 0x34, 0x56, 0x81, 0x00, 0x28, 0xAE, 0x01, 0xB5]

/-- R140: BUILD_CONTROL for an opcode given by number: the ten of the table build, every other number is refused. That a
bare command is refused when its modifier does not fit is the model's choice (assumption log 9). -/
def Obligations.BuildControlByNumber : Prop :=
  (∀ (op : ControlOp) (s : State), controlResult (.buildControl op.code.toNat) op.code s) ∧
  (∀ (n : Nat) (data : Option Nat) (m : Nat) (s : State), n ∉ [0, 1, 2, 3, 4, 11, 12, 13, 20, 40] →
    (∀ d, data = some d → d < 2 ^ 16) → m < 2 ^ 16 →
    exec (.buildControl n data m) s = .next { s with trace := s.trace ++ [.label .refuseBadOpcode] }) ∧
  (buildControl 13 (some 0x1234) 0x0001).toOption = some [0x00, 0x0D, 0x12, 0x34, 0x00, 0x01]

/-- R151: PLIMIT gives the ACTIVE_POWER_LIMIT payload with `limitUnits * 20` and the two modifier bits, and refuses a
limit above 3276. -/
def Obligations.PowerLimitPayload : Prop :=
  (∀ (n : Nat) (relative persist : Bool) (s : State), n ≤ 3276 →
    exec (.plimit n relative persist) s = .next { s with
      trace := s.trace ++
        [.returned (.bytes ([0x00, 0x0B] ++ be16 (BitVec.ofNat 16 (n * 20)) ++
          be16 ((if persist then 0x0100#16 else 0#16) ||| (if relative then 0x0001#16 else 0#16)))), .label .ok] }) ∧
  (∀ (n : Nat) (relative persist : Bool) (s : State), 3276 < n →
    exec (.plimit n relative persist) s = .next { s with trace := s.trace ++ [.label .refuseBadOperand] }) ∧
  (plimit 25 false false).toOption = some [0x00, 0x0B, 0x01, 0xF4, 0x00, 0x00] ∧
  (plimit 50 true true).toOption = some [0x00, 0x0B, 0x03, 0xE8, 0x01, 0x01]

/-- R152, R153: TSYNC gives the fixed 13 bytes around the big-endian seconds; REQ gives the empty payload; with the rules'
own example frames. -/
def Obligations.TimeSyncAndRequestPayloads : Prop :=
  (∀ (u : Word) (s : State),
    exec (.tsync u) s = .next { s with
      trace := s.trace ++
        [.returned (.bytes [0x0B, 0x00, u.extractLsb' 24 8, u.extractLsb' 16 8, u.extractLsb' 8 8, u.extractLsb' 0 8,
          0x00, 0x00, 0x00, 0x05, 0x00, 0x00, 0x00]), .label .ok] }) ∧
  (∀ s : State, exec .req s = .next { s with trace := s.trace ++ [.returned (.bytes []), .label .ok] }) ∧
  crc16 (tsync 0x65432100) = 0xEB90 ∧
  frameBytes 0x15 0x72220143 0x80123456 0x02 [] =
    [0x15, 0x72, 0x22, 0x01, 0x43, 0x80, 0x12, 0x34, 0x56, 0x02, 0xF5]

/-- R155: CMDFRAME is ENCODE with the type of its kind, `PEER_ADDR`, `LOCAL_ADDR`, and frame-id 0x81 for a command, the
index for a re-request, whose payload is empty. R155 takes only payloads the builders give and indices 1 to 16; that any
other payload or byte is framed as given is the model's choice (assumption log 27). -/
def Obligations.CommandFramesCarryTheConfiguration : Prop :=
  (∀ (p : Bytes) (s : State), p.length ≤ s.cfg.maxFrameLen - 13 →
    exec (.cmdframe (.control p)) s = .next { s with
      trace := s.trace ++
        [.returned (.bytes (frameBytes s.cfg.typeControl s.cfg.peerAddr s.cfg.localAddr 0x81 p)), .label .ok] } ∧
    exec (.cmdframe (.timesync p)) s = .next { s with
      trace := s.trace ++
        [.returned (.bytes (frameBytes s.cfg.typeTimesync s.cfg.peerAddr s.cfg.localAddr 0x81 p)), .label .ok] }) ∧
  (∀ (k : Byte) (s : State),
    exec (.cmdframe (.rerequest k)) s = .next { s with
      trace := s.trace ++
        [.returned (.bytes (frameBytes s.cfg.typeRerequest s.cfg.peerAddr s.cfg.localAddr k [])), .label .ok] }) ∧
  (∀ (p : Bytes) (s : State), s.cfg.maxFrameLen - 13 < p.length →
    exec (.cmdframe (.control p)) s = .next { s with trace := s.trace ++ [.label .refusePayloadTooLong] } ∧
    exec (.cmdframe (.timesync p)) s = .next { s with trace := s.trace ++ [.label .refusePayloadTooLong] })

/-! ### The format rows (30_encoding.md) -/

/-- The rows FID, CTRL2, CTRL6, TS13, REQ0 run: each hands its caller the bytes its format lays out (R72, R75 to R78; that a
format row runs so is the model's choice, assumption log 7). -/
def Obligations.PayloadFormatRowsLayOutTheirBytes : Prop :=
  ∀ s : State,
    (∀ (last : Bool) (index : BitVec 7),
      exec (.fid last index) s = .next { s with
        trace := s.trace ++
          [.returned (.bytes [BitVec.ofNat 8 ((if last then 128 else 0) + index.toNat)]), .label .ok] }) ∧
    (∀ op : ControlOp,
      exec (.ctrl2 op) s = .next { s with
        trace := s.trace ++
          [.returned (.bytes [op.code.extractLsb' 8 8, op.code.extractLsb' 0 8]), .label .ok] }) ∧
    (∀ (op : ControlOp) (d m : Half),
      exec (.ctrl6 op d m) s = .next { s with
        trace := s.trace ++
          [.returned (.bytes [op.code.extractLsb' 8 8, op.code.extractLsb' 0 8, d.extractLsb' 8 8, d.extractLsb' 0 8,
            m.extractLsb' 8 8, m.extractLsb' 0 8]), .label .ok] }) ∧
    (∀ u : Word,
      exec (.ts13 u) s = .next { s with
        trace := s.trace ++
          [.returned (.bytes [0x0B, 0x00, u.extractLsb' 24 8, u.extractLsb' 16 8, u.extractLsb' 8 8, u.extractLsb' 0 8,
            0x00, 0x00, 0x00, 0x05, 0x00, 0x00, 0x00]), .label .ok] }) ∧
    exec .req0 s = .next { s with trace := s.trace ++ [.returned (.bytes []), .label .ok] }

/-- The rows FRAME and RXFRAG run: each hands its caller the bytes its layout gives, within the length bounds (R70, R71,
R79, R90; that a format row runs so is the model's choice, assumption log 7). -/
def Obligations.FrameFormatRowsLayOutTheirBytes : Prop :=
  ∀ (type : Byte) (dst src : Word) (last : Bool) (index : BitVec 7) (b : Bytes) (k : Byte) (s : State),
    (b.length ≤ s.cfg.maxFrameLen - 13 →
      exec (.frame type dst src last index b) s = .next { s with
        trace := s.trace ++
          [.returned (.bytes
            (let f := [type] ++ be32 dst ++ be32 src ++ [fidByte last index] ++ b ++
              (if 0 < b.length then be16 (crc16 b) else [])
             f ++ [crc8 f])), .label .ok] }) ∧
    (s.cfg.maxFrameLen - 13 < b.length →
      exec (.frame type dst src last index b) s = .next { s with
        trace := s.trace ++ [.label .refusePayloadTooLong] }) ∧
    (b.length + 11 ≤ s.cfg.maxFrameLen →
      exec (.rxfrag type dst src last index b k) s = .next { s with
        trace := s.trace ++
          [.returned (.bytes ([type] ++ be32 dst ++ be32 src ++ [fidByte last index] ++ b ++ [k])), .label .ok] }) ∧
    (s.cfg.maxFrameLen < b.length + 11 →
      exec (.rxfrag type dst src last index b k) s = .next { s with trace := s.trace ++ [.label .dropLength] })

/-- Operands no rule gives a result for end in a drop or a refusal that changes nothing but the trace, and the machine
goes on (R225, R226; the labels are the model's choice, assumption log 8, 9 and 12). -/
def Obligations.OperandsOutsideTheirDomainChangeNothing : Prop :=
  ∀ s : State,
    exec (.chk8 []) s = .next { s with trace := s.trace ++ [.label .dropLength] } ∧
    (∀ raw : Bytes, raw.length < 11 ∨ s.cfg.maxFrameLen < raw.length →
      exec (.decode raw) s = .next { s with trace := s.trace ++ [.label .dropLength] }) ∧
    (∀ (index : BitVec 7) (last : Bool) (body : Bytes), index = 0 ∨ 15 < index.toNat →
      exec (.arrive index last body) s = .next { s with trace := s.trace ++ [.label .dropIndex] }) ∧
    (∀ (index : BitVec 7) (last : Bool) (body : Bytes), 1 ≤ index.toNat → index.toNat ≤ 15 →
      s.cfg.maxFrameLen - 11 < body.length →
      exec (.arrive index last body) s = .next { s with trace := s.trace ++ [.label .dropLength] }) ∧
    (∀ (a : Activity) (f : Bytes), s.txn a = .idle → f.length < 11 ∨ s.cfg.maxFrameLen < f.length →
      exec (.sendTxn a f) s = .next { s with trace := s.trace ++ [.label .refuseBadOperand] }) ∧
    (∀ (n : Nat) (data : Option Nat) (m : Nat), n ∉ [0, 1, 2, 3, 4, 11, 12, 13, 20, 40] →
      exec (.buildControl n data m) s = .next { s with trace := s.trace ++ [.label .refuseBadOpcode] })

/-! ### Encodings (30_encoding.md) -/

/-- Decoding the encoding of any well-formed operation gives the operation back. -/
def Obligations.DecodeEncodeRoundTrip : Prop :=
  ∀ i : Instr, i.wellFormed = true → decode (encode i) = .ok i

/-- Encoding what a byte string decodes to gives the byte string back, in every format: no bit of an encoding is
ignored. -/
def Obligations.EncodeOfDecodedBytes : Prop :=
  ∀ (f : Format) (b : Bytes) (i : Instr), decodeBytes f b = .ok i → encode i = .word f b

/-- R86: a control command whose opcode is outside the table is rejected by name, in each of the three formats that carry
an opcode and in both layouts. -/
def Obligations.ReservedOpcodesRejected : Prop :=
  ∀ a b c d e f : Byte, a.toNat * 256 + b.toNat ∉ [0, 1, 2, 3, 4, 11, 12, 13, 20, 40] →
    decodeBytes .ctrl [a, b] = .error .reservedOpcode ∧
    decodeBytes .ctrl [a, b, c, d, e, f] = .error .reservedOpcode ∧
    decodeBytes .ctrl2 [a, b] = .error .reservedOpcode ∧
    decodeBytes .ctrl6 [a, b, c, d, e, f] = .error .reservedOpcode

/-- R85: the ten opcode words of the table decode to their commands, and words of the other formats written out from their
layouts decode to what they stand for. -/
def Obligations.WrittenOutWordsDecode : Prop :=
  decodeTableWord 16 0x0000 = some (.ctrlOn none 0) ∧ decodeTableWord 16 0x0001 = some (.ctrlOff none 0) ∧
  decodeTableWord 16 0x0002 = some (.ctrlRestoreLastAction none 0) ∧
  decodeTableWord 16 0x0003 = some (.ctrlLock none 0) ∧ decodeTableWord 16 0x0004 = some (.ctrlUnlock none 0) ∧
  decodeTableWord 16 0x000B = some (.ctrlActivePowerLimit none 0) ∧
  decodeTableWord 16 0x000C = some (.ctrlReactivePowerLimit none 0) ∧
  decodeTableWord 16 0x000D = some (.ctrlPowerFactor none 0) ∧
  decodeTableWord 16 0x0014 = some (.ctrlLockAndAlarm none 0) ∧
  decodeTableWord 16 0x0028 = some (.ctrlSelfInspect none 0) ∧
  decode (.word .fid [0x83]) = .ok (.fid true 3) ∧
  decode (.word .ctrl6 [0x00, 0x0B, 0x01, 0xF4, 0x01, 0x01]) = .ok (.ctrl6 .activePowerLimit 0x01F4 0x0101) ∧
  decode (.word .ts13 [0x0B, 0x00, 0x65, 0x43, 0x21, 0x00, 0x00, 0x00, 0x00, 0x05, 0x00, 0x00, 0x00]) =
    .ok (.ts13 0x65432100)

/-! ### The reassembly engine (43_reassembly.md) -/

/-- R160: RESETBUF clears all presence bits, `expectedCount` and `retry`, and nothing else. -/
def Obligations.ResetbufClears : Prop :=
  ∀ s : State,
    exec .resetbuf s = .next { s with
      present := Vector.replicate 15 false
      expectedCount := 0
      retry := 0
      trace := s.trace ++ [.label .ok] }

/-- R161: ARRIVE of a body that fits at an index of 1 to 15. In IDLE it begins a sequence (only this slot is present,
`retry` is 0); the body is what the slot then holds; the update rule sets `expectedCount`; `last_activity` is `now`. Every
other slot's length and bytes, and everything outside the engine, are unchanged. -/
def Obligations.ArriveStoresAndUpdates : Prop :=
  ∀ (index : BitVec 7) (last : Bool) (body : Bytes) (s : State),
    1 ≤ index.toNat → index.toNat ≤ 15 → body.length ≤ s.cfg.maxFrameLen - 11 → s.slotData.wf →
    ∃ t : State, exec (.arrive index last body) s = .next t ∧
      (∀ j, t.isPresent j =
        (decide (j = index.toNat) || (decide (s.expectedCount ≠ 0) && s.isPresent j))) ∧
      t.slotBytes index.toNat = body ∧ t.slotLength index.toNat = body.length ∧
      (∀ j, j ≠ index.toNat → t.slotLength j = s.slotLength j ∧ t.slotBytes j = s.slotBytes j) ∧
      (∀ k, (∀ o, o < body.length → k ≠ slotKey index.toNat o) → t.slotData.read k = s.slotData.read k) ∧
      (last = true → t.expectedCount.toNat = index.toNat) ∧
      (last = false → t.expectedCount.toNat = max (index.toNat + 1) s.expectedCount.toNat) ∧
      t.retry = (if s.expectedCount = 0 then 0 else s.retry) ∧
      t.lastActivity = s.port.now ∧
      t = { s with
        present := t.present, slotLen := t.slotLen, slotData := t.slotData, expectedCount := t.expectedCount,
        retry := t.retry, lastActivity := t.lastActivity, trace := s.trace ++ [.label .ok] }

/-- R165: COMPLETE fires exactly when `expectedCount` is 1 to 15 and slots 1 to `expectedCount` are all present; it then
concatenates them in index order, emits the message without its CRC16 when CHK16 holds, drops it otherwise, and resets the
engine in both cases. -/
def Obligations.CompleteAssemblesInIndexOrder : Prop :=
  ∀ (s : State) (m : Bytes), m = ((List.range' 1 s.expectedCount.toNat).map s.slotBytes).flatten →
    ((0 < s.expectedCount.toNat ∧ s.expectedCount.toNat ≤ 15 ∧
        (∀ i, 1 ≤ i → i ≤ s.expectedCount.toNat → s.isPresent i = true)) →
      (chk16 m = true → exec .complete s = .next { s with
        present := Vector.replicate 15 false, expectedCount := 0, retry := 0,
        trace := s.trace ++ [.telemetry (m.take (m.length - 2)), .label .completeOk] }) ∧
      (chk16 m = false → exec .complete s = .next { s with
        present := Vector.replicate 15 false, expectedCount := 0, retry := 0,
        trace := s.trace ++ [.label .dropCrc16] })) ∧
    (¬(0 < s.expectedCount.toNat ∧ s.expectedCount.toNat ≤ 15 ∧
        (∀ i, 1 ≤ i → i ≤ s.expectedCount.toNat → s.isPresent i = true)) →
      exec .complete s = .next { s with trace := s.trace ++ [.label .ok] })

/-- R166, R167: TICK does nothing in IDLE or up to 100 ms; past that it counts a retry, abandons when the counter exceeds
5, and otherwise asks for the lowest missing index (16 counts as missing) and sends the RECEIVER to `P_REREQ`. Two clauses
reach states no run reaches and are the model's: where no index is missing `req_index` is some value (assumption log 11),
and a `retry` of 7 counts on to 0 (assumption log 23). -/
def Obligations.TickTimesOutRerequestsAbandons : Prop :=
  ∀ s : State,
    (s.expectedCount = 0 ∨ (s.port.now - s.lastActivity).toNat ≤ 100 →
      exec .tick s = .next { s with trace := s.trace ++ [.label .ok] }) ∧
    (s.expectedCount ≠ 0 → 100 < (s.port.now - s.lastActivity).toNat → 5 < (s.retry + 1).toNat →
      exec .tick s = .next { s with
        present := Vector.replicate 15 false, expectedCount := 0, retry := 0,
        trace := s.trace ++ [.label .abandon] }) ∧
    (s.expectedCount ≠ 0 → 100 < (s.port.now - s.lastActivity).toNat → (s.retry + 1).toNat ≤ 5 →
      (∀ i, 1 ≤ i → i ≤ s.expectedCount.toNat → (i = 16 ∨ s.isPresent i = false) →
        (∀ j, 1 ≤ j → j < i → j ≠ 16 ∧ s.isPresent j = true) →
        exec .tick s = .next { s with
          retry := s.retry + 1, reqIndex := BitVec.ofNat 5 i, rstep := .pRereq,
          trace := s.trace ++ [.label .rereq] }) ∧
      ∃ q, exec .tick s = .next { s with
        retry := s.retry + 1, reqIndex := q, rstep := .pRereq, trace := s.trace ++ [.label .rereq] })

/-- R168: ABANDON clears the buffer, emits and sends nothing; it is what TICK does on the sixth timeout.
That it does so run by itself too, in every state, is the model's choice (assumption log 29). -/
def Obligations.AbandonClearsTheSequence : Prop :=
  ∀ s : State,
    exec .abandon s = .next { s with
      present := Vector.replicate 15 false, expectedCount := 0, retry := 0,
      trace := s.trace ++ [.label .abandon] } ∧
    (s.expectedCount ≠ 0 → 100 < (s.port.now - s.lastActivity).toNat → 5 < (s.retry + 1).toNat →
      exec .tick s = exec .abandon s)

/-- R169, step by step: in `P_REREQ` the frame is built, then each step of the send transaction follows, its RELEASE
leading to `P_STAMP`; `P_STAMP` writes `last_activity`. While the lock is held the RECEIVER waits. At any other step of the
RECEIVER nothing happens (assumption log 14). A RELEASE without the lock stops (13); the granularity is 1. -/
def Obligations.RereqSendSteps : Prop :=
  ∀ s : State,
    (s.rstep = .pRereq → s.txnR = .idle →
      exec .rereqSend s = .next { s with
        txbufR := frameBytes s.cfg.typeRerequest s.cfg.peerAddr s.cfg.localAddr (s.reqIndex.setWidth 8) []
        txnR := .acquire
        trace := s.trace ++ [.label .ok] }) ∧
    (s.rstep = .pRereq → s.txnR = .acquire → s.lock = .free →
      exec .rereqSend s = .next { s with
        lock := .receiver, txnR := .leaveListen, trace := s.trace ++ [.label .ok] }) ∧
    (s.rstep = .pRereq → s.txnR = .acquire → s.lock ≠ .free → exec .rereqSend s = .next s) ∧
    (s.rstep = .pRereq → s.txnR = .leaveListen →
      exec .rereqSend s = .next { s with
        listen := false, txnR := .transmit, trace := s.trace ++ [.setListenMode .receiver false, .label .ok] }) ∧
    (s.rstep = .pRereq → s.txnR = .transmit →
      exec .rereqSend s = .next { s with
        txnR := .restoreListen
        trace := s.trace ++ [.sendFragment .receiver s.txbufR s.port.ack,
          .label (if s.port.ack then .ok else .sendUnacked)] }) ∧
    (s.rstep = .pRereq → s.txnR = .restoreListen →
      exec .rereqSend s = .next { s with
        listen := true, txnR := .release, trace := s.trace ++ [.setListenMode .receiver true, .label .ok] }) ∧
    (s.rstep = .pRereq → s.txnR = .release → s.lock = .receiver →
      exec .rereqSend s = .next { s with
        lock := .free, txnR := .idle, rstep := .pStamp, trace := s.trace ++ [.label .ok] }) ∧
    (s.rstep = .pRereq → s.txnR = .release → s.lock ≠ .receiver → exec .rereqSend s = .fault .releaseByNonOwner) ∧
    (s.rstep = .pStamp →
      exec .rereqSend s = .next { s with
        lastActivity := s.port.now, rstep := .pSleep, sleepArmed := false, trace := s.trace ++ [.label .ok] }) ∧
    (s.rstep ≠ .pRereq → s.rstep ≠ .pStamp → exec .rereqSend s = .next s)

/-- R169 as a whole: with the lock free and nothing between its steps, a re-request is built, sent under the lock and
stamped: listen mode is left and restored, the lock is free again, `last_activity` is `now`. The count of seven steps
is assumption log 1. -/
def Obligations.RereqSendRunsToItsStamp : Prop :=
  ∀ (s : State) (f : Bytes), s.rstep = .pRereq → s.txnR = .idle → s.lock = .free →
    f = frameBytes s.cfg.typeRerequest s.cfg.peerAddr s.cfg.localAddr (s.reqIndex.setWidth 8) [] →
    execTimes 7 .rereqSend s = .next { s with
      txbufR := f, lock := .free, listen := true, txnR := .idle, rstep := .pSleep, sleepArmed := false,
      lastActivity := s.port.now,
      trace := s.trace ++
        [.label .ok, .label .ok, .setListenMode .receiver false, .label .ok,
         .sendFragment .receiver f s.port.ack, .label (if s.port.ack then .ok else .sendUnacked),
         .setListenMode .receiver true, .label .ok, .label .ok, .label .ok] }

/-- R171: the fragments of a message of `N` bodies, delivered in any order to an idle engine, each once, complete exactly
at the last arrival, and the message is the concatenation of the bodies in index order, whatever the order of arrival. -/
def Obligations.OutOfOrderArrivalCompletes : Prop :=
  ∀ (s : State) (bodies : List Bytes) (order : List Nat),
    s.expectedCount = 0 → s.slotData.wf → 1 ≤ bodies.length → bodies.length ≤ 15 →
    (∀ b ∈ bodies, b.length ≤ s.cfg.maxFrameLen - 11) →
    order.Perm (List.range' 1 bodies.length) →
    ∃ t : State, execAll (deliveries bodies order) s = .next t ∧
      t.expectedCount = 0 ∧ t.retry = 0 ∧ t.present = Vector.replicate 15 false ∧
      t.trace = s.trace ++ List.replicate (2 * bodies.length - 1) (.label .ok) ++
        (if chk16 bodies.flatten then
          [.telemetry (bodies.flatten.take (bodies.flatten.length - 2)), .label .completeOk]
        else [.label .dropCrc16])

/-! ### The arbiter (44_arbiter_control.md) -/

/-- R190: ACQUIRE takes a free lock in one step; while it is held the caller waits and nothing changes. -/
def Obligations.AcquireTakesAFreeLock : Prop :=
  ∀ (a : Activity) (s : State),
    (s.lock = .free → exec (.acquire a) s = .next { s with
      lock := (match a with | .sender => Lock.sender | .receiver => Lock.receiver)
      trace := s.trace ++ [.label .ok] }) ∧
    (s.lock ≠ .free → exec (.acquire a) s = .next s)

/-- R191: RELEASE by the owner frees the lock; by anyone else it is not a step of the hardware, and the model stops
(assumption log 13). -/
def Obligations.ReleaseOnlyByTheOwner : Prop :=
  ∀ s : State,
    (s.lock = .sender →
      exec (.release .sender) s = .next { s with lock := .free, trace := s.trace ++ [.label .ok] }) ∧
    (s.lock = .receiver →
      exec (.release .receiver) s = .next { s with lock := .free, trace := s.trace ++ [.label .ok] }) ∧
    (s.lock ≠ .sender → exec (.release .sender) s = .fault .releaseByNonOwner) ∧
    (s.lock ≠ .receiver → exec (.release .receiver) s = .fault .releaseByNonOwner)

/-- R193, step by step, for either activity: the frame goes into the buffer, ACQUIRE or wait, leave listen mode, transmit
the buffer (`ack` only labels the step), restore listen mode, RELEASE. The model's own here: the granularity (assumption
log 1), the buffer loaded from the operand as a first step (26) whatever its bytes are (28), the stop of a RELEASE without
the lock (13), and that nothing happens at the place `finish`, which is STARTUP's (14). -/
def Obligations.SendTxnSteps : Prop :=
  ∀ (a : Activity) (f : Bytes) (s : State),
    (s.txn a = .idle → 11 ≤ f.length → f.length ≤ s.cfg.maxFrameLen →
      exec (.sendTxn a f) s = .next (((s.setTxbuf a f).setTxn a .acquire).emit [.label .ok])) ∧
    (s.txn a = .acquire → s.lock = .free →
      exec (.sendTxn a f) s = .next (({ s with lock := ownerOf a }.setTxn a .leaveListen).emit [.label .ok])) ∧
    (s.txn a = .acquire → s.lock ≠ .free → exec (.sendTxn a f) s = .next s) ∧
    (s.txn a = .leaveListen →
      exec (.sendTxn a f) s =
        .next (({ s with listen := false }.setTxn a .transmit).emit [.setListenMode a false, .label .ok])) ∧
    (s.txn a = .transmit →
      exec (.sendTxn a f) s =
        .next ((s.setTxn a .restoreListen).emit
          [.sendFragment a (s.txbuf a) s.port.ack, .label (if s.port.ack then .ok else .sendUnacked)])) ∧
    (s.txn a = .restoreListen →
      exec (.sendTxn a f) s =
        .next (({ s with listen := true }.setTxn a .release).emit [.setListenMode a true, .label .ok])) ∧
    (s.txn a = .release → s.lock = ownerOf a →
      exec (.sendTxn a f) s = .next (({ s with lock := .free }.setTxn a .idle).emit [.label .ok])) ∧
    (s.txn a = .release → s.lock ≠ ownerOf a → exec (.sendTxn a f) s = .fault .releaseByNonOwner) ∧
    (s.txn a = .finish → exec (.sendTxn a f) s = .next s)

/-- R193 as a whole: with the lock free and nothing between its steps, SEND_TXN makes exactly the three channel calls in
order, ends with the lock free and `listen = 1`, and changes nothing else but the buffer it sent from. The count of six is
assumption log 1; that bytes no ENCODE built are sent too is assumption log 28. -/
def Obligations.SendTxnMakesThreeCalls : Prop :=
  ∀ (a : Activity) (f : Bytes) (s : State), s.txn a = .idle → s.lock = .free → 11 ≤ f.length →
    f.length ≤ s.cfg.maxFrameLen →
    execTimes 6 (.sendTxn a f) s = .next { s.setTxbuf a f with
      listen := true
      trace := s.trace ++
        [.label .ok, .label .ok, .setListenMode a false, .label .ok,
         .sendFragment a f s.port.ack, .label (if s.port.ack then .ok else .sendUnacked),
         .setListenMode a true, .label .ok, .label .ok] }

/-- R194, step by step: ACQUIRE or wait, the availability test, at most one read (bytes past `MAX_FRAME_LEN` are not
stored, the length is the returned one), RELEASE with the result. The model's own here: the granularity (assumption log 1)
and the stop of a RELEASE without the lock (13). -/
def Obligations.RxchkTxnSteps : Prop :=
  ∀ s : State,
    (s.rxPhase = .idle → s.lock = .free →
      exec .rxchkTxn s = .next { s with lock := .receiver, rxPhase := .query, trace := s.trace ++ [.label .ok] }) ∧
    (s.rxPhase = .idle → s.lock ≠ .free → exec .rxchkTxn s = .next s) ∧
    (s.rxPhase = .query →
      exec .rxchkTxn s = .next { s with
        rxPhase := if s.port.available then .read else .release false
        trace := s.trace ++ [.isFragmentAvailable .receiver s.port.available, .label .ok] }) ∧
    (s.rxPhase = .read →
      exec .rxchkTxn s = .next { s with
        rxbuf := s.port.fragment.take s.cfg.maxFrameLen, rxlen := s.port.fragment.length,
        rxPhase := .release true,
        trace := s.trace ++ [.readFragment .receiver s.port.fragment, .label .ok] }) ∧
    (∀ got, s.rxPhase = .release got → s.lock = .receiver →
      exec .rxchkTxn s = .next { s with
        lock := .free, rxPhase := .idle, trace := s.trace ++ [.label .ok, .returned (.bit got)] }) ∧
    (∀ got, s.rxPhase = .release got → s.lock ≠ .receiver → exec .rxchkTxn s = .fault .releaseByNonOwner)

/-- R194 as a whole: with the lock free and nothing between its steps, RXCHK_TXN tests availability once, reads at most one
fragment, returns whether it got one, and leaves the lock free. The counts
of three and four steps are assumption log 1. -/
def Obligations.RxchkTxnReadsAtMostOne : Prop :=
  ∀ s : State, s.rxPhase = .idle → s.lock = .free →
    (s.port.available = false →
      execTimes 3 .rxchkTxn s = .next { s with
        trace := s.trace ++
          [.label .ok, .isFragmentAvailable .receiver false, .label .ok, .label .ok, .returned (.bit false)] }) ∧
    (s.port.available = true →
      execTimes 4 .rxchkTxn s = .next { s with
        rxbuf := s.port.fragment.take s.cfg.maxFrameLen, rxlen := s.port.fragment.length,
        trace := s.trace ++
          [.label .ok, .isFragmentAvailable .receiver true, .label .ok,
           .readFragment .receiver s.port.fragment, .label .ok, .label .ok, .returned (.bit true)] })

/-! ### The activities (44_arbiter_control.md) -/

/-- R195 and D20, step by step: STARTUP builds the power-limit frame (or, for a limit above 3276, builds none and goes to
its end), takes the steps of its send transaction, then sets `next_sync` and leaves `S_STARTUP`; afterwards it never runs
again (R24).
The model's own here: the granularity (assumption log 1), that a refused limit goes to the end that writes `next_sync`
(25), that STARTUP called elsewhere leaves the state as it is (14), and the stop of a RELEASE without the lock (13). -/
def Obligations.StartupSteps : Prop :=
  ∀ s : State,
    (s.sstep = .sStartup → s.txnS = .idle → s.cfg.startupLimitUnits ≤ 3276 → 19 ≤ s.cfg.maxFrameLen →
      exec .startup s = .next { s with
        txbufS := frameBytes s.cfg.typeControl s.cfg.peerAddr s.cfg.localAddr 0x81
          ([0x00, 0x0B] ++ be16 (BitVec.ofNat 16 (s.cfg.startupLimitUnits * 20)) ++
            be16 ((if s.cfg.startupPersist then 0x0100#16 else 0#16) |||
              (if s.cfg.startupRelative then 0x0001#16 else 0#16)))
        txnS := .acquire
        trace := s.trace ++ [.label .ok] }) ∧
    (s.sstep = .sStartup → s.txnS = .idle → 3276 < s.cfg.startupLimitUnits →
      exec .startup s = .next { s with txnS := .finish, trace := s.trace ++ [.label .refuseBadOperand] }) ∧
    (s.sstep = .sStartup → (s.txnS = .acquire ∨ s.txnS = .leaveListen ∨ s.txnS = .transmit ∨ s.txnS = .restoreListen) →
      exec .startup s = exec (.sendTxn .sender s.txbufS) s) ∧
    (s.sstep = .sStartup → s.txnS = .release → s.lock = .sender →
      exec .startup s = .next { s with lock := .free, txnS := .finish, trace := s.trace ++ [.label .ok] }) ∧
    (s.sstep = .sStartup → s.txnS = .release → s.lock ≠ .sender → exec .startup s = .fault .releaseByNonOwner) ∧
    (s.sstep = .sStartup → s.txnS = .finish →
      exec .startup s = .next { s with
        nextSync := s.port.now + (if s.cfg.syncFirstDelayed then 5000#32 else 0#32)
        sstep := if s.cfg.syncFirstDelayed then .sSleep else .sSync
        txnS := .idle
        trace := s.trace ++ [.label .ok] }) ∧
    (s.sstep ≠ .sStartup → exec .startup s = .next s)

/-- R195 as a whole: with a legal limit, the lock free and nothing between its steps, STARTUP sends one power-limit frame
under the lock, sets `next_sync`, and enters the loop. The count of seven, with the building and the last two assignments
as one step each, is assumption log 1. -/
def Obligations.StartupSendsOnePowerLimit : Prop :=
  ∀ (s : State) (f : Bytes), s.sstep = .sStartup → s.txnS = .idle → s.lock = .free →
    s.cfg.startupLimitUnits ≤ 3276 → 19 ≤ s.cfg.maxFrameLen →
    f = frameBytes s.cfg.typeControl s.cfg.peerAddr s.cfg.localAddr 0x81
      ([0x00, 0x0B] ++ be16 (BitVec.ofNat 16 (s.cfg.startupLimitUnits * 20)) ++
        be16 ((if s.cfg.startupPersist then 0x0100#16 else 0#16) |||
          (if s.cfg.startupRelative then 0x0001#16 else 0#16))) →
    execTimes 7 .startup s = .next { s with
      txbufS := f, listen := true,
      nextSync := s.port.now + (if s.cfg.syncFirstDelayed then 5000#32 else 0#32),
      sstep := if s.cfg.syncFirstDelayed then .sSleep else .sSync,
      trace := s.trace ++
        [.label .ok, .label .ok, .setListenMode .sender false, .label .ok,
         .sendFragment .sender f s.port.ack, .label (if s.port.ack then .ok else .sendUnacked),
         .setListenMode .sender true, .label .ok, .label .ok, .label .ok] }

/-- R196, step by step: `S_SYNC` builds the time-sync frame from the seconds sampled then and takes the steps of its send
transaction, whose RELEASE leads to `S_DIAG`; `S_DIAG` sets `next_sync`; `S_SLEEP` is left when `now` has reached it and no
host frame is being sent. The model's own here: the granularity (assumption log 1), that `S_SLEEP` waits for a host
frame (2), that SYNC called in `S_STARTUP` leaves the state as it is (14), and the stop of a RELEASE without the lock
(13). -/
def Obligations.SyncSteps : Prop :=
  ∀ s : State,
    (s.sstep = .sSync → s.txnS = .idle → 26 ≤ s.cfg.maxFrameLen →
      exec .sync s = .next { s with
        txbufS := frameBytes s.cfg.typeTimesync s.cfg.peerAddr s.cfg.localAddr 0x81
          ([0x0B, 0x00] ++ be32 s.port.unixSeconds ++ [0x00, 0x00, 0x00, 0x05, 0x00, 0x00, 0x00])
        txnS := .acquire
        trace := s.trace ++ [.label .ok] }) ∧
    (s.sstep = .sSync → (s.txnS = .acquire ∨ s.txnS = .leaveListen ∨ s.txnS = .transmit ∨ s.txnS = .restoreListen) →
      exec .sync s = exec (.sendTxn .sender s.txbufS) s) ∧
    (s.sstep = .sSync → s.txnS = .release → s.lock = .sender →
      exec .sync s = .next { s with
        lock := .free, txnS := .idle, sstep := .sDiag, trace := s.trace ++ [.label .ok] }) ∧
    (s.sstep = .sSync → s.txnS = .release → s.lock ≠ .sender → exec .sync s = .fault .releaseByNonOwner) ∧
    (s.sstep = .sDiag →
      exec .sync s = .next { s with
        nextSync := s.port.now + 5000#32, sstep := .sSleep, trace := s.trace ++ [.label .ok] }) ∧
    (s.sstep = .sSleep → s.txnS = .idle → (s.port.now - s.nextSync).toNat < 2 ^ 31 →
      exec .sync s = .next { s with sstep := .sSync, trace := s.trace ++ [.label .ok] }) ∧
    (s.sstep = .sSleep → (s.txnS ≠ .idle ∨ 2 ^ 31 ≤ (s.port.now - s.nextSync).toNat) → exec .sync s = .next s) ∧
    (s.sstep = .sStartup → exec .sync s = .next s)

/-- R196 as a whole: with the lock free and nothing between its steps, one round sends one time-sync frame under the lock,
queries diagnostics, and sleeps until `now + 5000`. The count of seven steps is assumption log 1. -/
def Obligations.SyncRoundSendsOneTimeSync : Prop :=
  ∀ (s : State) (f : Bytes), s.sstep = .sSync → s.txnS = .idle → s.lock = .free → 26 ≤ s.cfg.maxFrameLen →
    f = frameBytes s.cfg.typeTimesync s.cfg.peerAddr s.cfg.localAddr 0x81
      ([0x0B, 0x00] ++ be32 s.port.unixSeconds ++ [0x00, 0x00, 0x00, 0x05, 0x00, 0x00, 0x00]) →
    execTimes 7 .sync s = .next { s with
      txbufS := f, listen := true, nextSync := s.port.now + 5000#32, sstep := .sSleep,
      trace := s.trace ++
        [.label .ok, .label .ok, .setListenMode .sender false, .label .ok,
         .sendFragment .sender f s.port.ack, .label (if s.port.ack then .ok else .sendUnacked),
         .setListenMode .sender true, .label .ok, .label .ok, .label .ok] }

/-- R198: DIAG completes in every state and reads and writes no state of the block. -/
def Obligations.DiagChangesNothing : Prop :=
  ∀ s : State, exec .diag s = .next { s with trace := s.trace ++ [.label .ok] }

/-- R197, step by step, once the SENDER has left `S_STARTUP`: POLL's step at `P_RXCHK` is the receive-check's and its
RELEASE chooses the skip; at `P_STORE` it is ARRIVE of the decoded fragment, at `P_COMPLETE` COMPLETE, at `P_RETRY` TICK
with the skip to `P_SLEEP` unless a re-request was decided, at `P_REREQ` and `P_STAMP` the re-request's; at `P_SLEEP`
`wake_R` is set to `now + 5`, and left when `now` has reached it (the comparison is R196's; that the write is a step of its
own, remembered in `sleepArmed`, is assumption log 15; that one line is one step is log 1). A RELEASE without the lock
stops (assumption log 13). The step at `P_VALIDATE` is `ValidationDropsInOrder`. -/
def Obligations.PollStepsInOrder : Prop :=
  ∀ s : State, s.sstep ≠ .sStartup →
    (s.rstep = .pRxchk → (∀ got, s.rxPhase ≠ .release got) → exec .poll s = exec .rxchkTxn s) ∧
    (∀ got, s.rstep = .pRxchk → s.rxPhase = .release got → s.lock = .receiver →
      exec .poll s = .next { s with
        lock := .free, rxPhase := .idle, rstep := if got then .pValidate else .pRetry,
        trace := s.trace ++ [.label .ok] }) ∧
    (∀ got, s.rstep = .pRxchk → s.rxPhase = .release got → s.lock ≠ .receiver →
      exec .poll s = .fault .releaseByNonOwner) ∧
    (∀ t, s.rstep = .pStore →
      exec (.arrive (decodeFragment s.rxbuf).index (decodeFragment s.rxbuf).last (decodeFragment s.rxbuf).body) s =
        .next t → exec .poll s = .next { t with rstep := .pComplete }) ∧
    (∀ t, s.rstep = .pComplete → exec .complete s = .next t → exec .poll s = .next { t with rstep := .pRetry }) ∧
    (∀ t, s.rstep = .pRetry → exec .tick s = .next t → t.rstep = .pRereq → exec .poll s = .next t) ∧
    (∀ t, s.rstep = .pRetry → exec .tick s = .next t → t.rstep ≠ .pRereq →
      exec .poll s = .next { t with rstep := .pSleep, sleepArmed := false }) ∧
    (s.rstep = .pRereq ∨ s.rstep = .pStamp → exec .poll s = exec .rereqSend s) ∧
    (s.rstep = .pSleep → s.sleepArmed = false →
      exec .poll s = .next { s with
        wakeR := s.port.now + 5#32, sleepArmed := true, trace := s.trace ++ [.label .ok] }) ∧
    (s.rstep = .pSleep → s.sleepArmed = true → (s.port.now - s.wakeR).toNat < 2 ^ 31 →
      exec .poll s = .next { s with
        rstep := .pRxchk, sleepArmed := false, trace := s.trace ++ [.label .ok] }) ∧
    (s.rstep = .pSleep → s.sleepArmed = true → 2 ^ 31 ≤ (s.port.now - s.wakeR).toNat → exec .poll s = .next s)

/-- R127: at `P_VALIDATE` the length, the CRC8 and the index are tested in that order; the first that fails drops the
fragment, which changes nothing but the RECEIVER's step (to `P_RETRY`) and the trace; a fragment that passes all three goes
on to `P_STORE`. -/
def Obligations.ValidationDropsInOrder : Prop :=
  ∀ s : State, s.sstep ≠ .sStartup → s.rstep = .pValidate →
    (s.rxlen < 11 ∨ s.cfg.maxFrameLen < s.rxlen →
      exec .poll s = .next { s with rstep := .pRetry, trace := s.trace ++ [.label .dropLength] }) ∧
    (11 ≤ s.rxlen → s.rxlen ≤ s.cfg.maxFrameLen → chk8 s.rxbuf = false →
      exec .poll s = .next { s with rstep := .pRetry, trace := s.trace ++ [.label .dropCrc8] }) ∧
    (11 ≤ s.rxlen → s.rxlen ≤ s.cfg.maxFrameLen → chk8 s.rxbuf = true →
      ((s.rxbuf.getD 9 0).toNat % 128 = 0 ∨ 15 < (s.rxbuf.getD 9 0).toNat % 128) →
      exec .poll s = .next { s with rstep := .pRetry, trace := s.trace ++ [.label .dropIndex] }) ∧
    (11 ≤ s.rxlen → s.rxlen ≤ s.cfg.maxFrameLen → chk8 s.rxbuf = true →
      1 ≤ (s.rxbuf.getD 9 0).toNat % 128 → (s.rxbuf.getD 9 0).toNat % 128 ≤ 15 →
      exec .poll s = .next { s with rstep := .pStore, trace := s.trace ++ [.label .ok] })

/-- R127, R194 and R197: a fragment that is available and passes the three tests is, with the lock free and nothing between
the steps, read, validated, stored and checked for completion: when ARRIVE of its decoded fields and then COMPLETE lead to
`t`, POLL leads to `t` with the fragment in `rxbuf` and the RECEIVER at its retry check, and what it shows the outside is
the four steps of the receive-check, the validation's label, and then exactly what ARRIVE and COMPLETE show, telemetry
among it. That this is seven steps is assumption log 1. -/
def Obligations.PollTickStoresAndCompletes : Prop :=
  ∀ (s t : State), s.sstep ≠ .sStartup → s.rstep = .pRxchk → s.rxPhase = .idle → s.lock = .free →
    s.port.available = true → (validate s.cfg s.port.fragment.length s.port.fragment).toOption.isSome →
    execAll [.arrive (decodeFragment s.port.fragment).index (decodeFragment s.port.fragment).last
      (decodeFragment s.port.fragment).body, .complete] s = .next t →
    ∃ shown : List Event, t.trace = s.trace ++ shown ∧
      execTimes 7 .poll s = .next { t with
        rxbuf := s.port.fragment, rxlen := s.port.fragment.length, rstep := .pRetry,
        trace := s.trace ++
          [.label .ok, .isFragmentAvailable .receiver true, .label .ok,
           .readFragment .receiver s.port.fragment, .label .ok, .label .ok, .label .ok] ++ shown }

/-- R24, R257: while the SENDER is in `S_STARTUP` the RECEIVER takes no step: POLL changes nothing. -/
def Obligations.PollWaitsForStartup : Prop :=
  ∀ s : State, s.sstep = .sStartup → exec .poll s = .next s

/-! ### The machine -/

/-- On the HOST's turn one step looks at its first request (the request list is the model's reading of R199, and every
clause here is assumption log 2; what the environment presents is log 3). A request that decodes to an operation the HOST
may ask for runs as that operation's meaning, well-formed or not, with the request removed; a frame for the SENDER only
while the SENDER sleeps with no transaction in progress, and it waits in the list until then; a request that is no
operation, or one the HOST may not ask for, is removed with its refusal's label; with no request nothing happens. -/
def Obligations.StepRunsTheDecodedRequest : Prop :=
  ∀ s t : State, s.TakesInput t → t.port.turn = .host →
    (s.requests = [] → step s = .next t) ∧
    (∀ (r : Request) (rs : List Request), s.requests = r :: rs →
      (∀ i, decode r = .ok i → hostMay i = true →
        (∀ f, i = .sendTxn .sender f → s.sstep = .sSleep ∧ s.txnS = .idle) →
        step s = exec i { t with requests := rs }) ∧
      (∀ f, decode r = .ok (.sendTxn .sender f) → ¬(s.sstep = .sSleep ∧ s.txnS = .idle) → step s = .next t) ∧
      (∀ i, decode r = .ok i → hostMay i = false →
        step s = .next { t with requests := rs, trace := s.trace ++ [.label .refuseBadOpcode] }) ∧
      (decode r = .error .reservedOpcode →
        step s = .next { t with requests := rs, trace := s.trace ++ [.label .refuseBadOpcode] }) ∧
      (∀ e, decode r = .error e → e ≠ .reservedOpcode →
        step s = .next { t with requests := rs, trace := s.trace ++ [.label .refuseBadOperand] }))

/-- R62, R197, R24: on the RECEIVER's turn one step is the meaning of POLL, on the SENDER's that of the operation its
sequencer is at, after the input is taken (what the environment presents is assumption log 3). That the SENDER goes on with
a host frame (R199) in `S_SLEEP`, and only there, is assumption log 2. -/
def Obligations.StepRunsTheSequencers : Prop :=
  ∀ s t : State, s.TakesInput t →
    (t.port.turn = .receiver → step s = exec .poll t) ∧
    (t.port.turn = .sender → s.sstep = .sStartup → step s = exec .startup t) ∧
    (t.port.turn = .sender → (s.sstep = .sSync ∨ s.sstep = .sDiag ∨ (s.sstep = .sSleep ∧ s.txnS = .idle)) →
      step s = exec .sync t) ∧
    (t.port.turn = .sender → s.sstep = .sSleep → s.txnS ≠ .idle → step s = exec (.sendTxn .sender s.txbufS) t)

/-- R251, R252, R253: the reset values the spec gives. -/
def Obligations.ResetValuesOfTheSpec : Prop :=
  State.reset.present = Vector.replicate 15 false ∧ State.reset.expectedCount = 0 ∧ State.reset.retry = 0 ∧
  State.reset.lock = .free ∧ State.reset.listen = true ∧
  State.reset.sstep = .sStartup ∧ State.reset.rstep = .pRxchk ∧
  (∀ i, State.reset.isPresent i = false)

/-- The state after reset satisfies the machine's invariant. -/
def Obligations.ResetSatisfiesTheMachineInvariant : Prop := State.reset.Inv

/-- R173, R200: every step from a state that satisfies the machine's invariant, whatever the environment presents and
whoever's turn it is, leads to a state that satisfies it. -/
def Obligations.StepKeepsTheMachineInvariant : Prop :=
  ∀ s t : State, s.Inv → step s = .next t → t.Inv

/-- "No condition in this core is fatal": from every state that satisfies the invariant the machine takes a step. -/
def Obligations.StepNeverStops : Prop :=
  ∀ s : State, s.Inv → ∃ t : State, step s = .next t

/-- R57, R200 (c): every channel call of a step is made by the owner of the lock. -/
def Obligations.ChannelCallsByTheLockOwner : Prop :=
  ∀ s t : State, s.Inv → step s = .next t →
    ∃ new : List Event, t.trace = s.trace ++ new ∧
      ∀ e ∈ new, ∀ a, e.caller = some a → s.lock = ownerOf a

/-- R200 (e), R62: the SENDER's steps neither read nor write the RECEIVER's private state, and the RECEIVER's steps neither
read nor write the SENDER's, once the SENDER is past `S_STARTUP`: replacing it commutes with the step, whatever the
environment presents. -/
def Obligations.ActivitiesShareOnlyTheLock : Prop :=
  ∀ s t r : State, s.TakesInput t →
    (t.port.turn = .sender → step (s.withReceiverOf r) = Result.andThen (step s) fun u => u.withReceiverOf r) ∧
    (t.port.turn = .receiver → s.sstep ≠ .sStartup → r.sstep ≠ .sStartup →
      step (s.withSenderOf r) = Result.andThen (step s) fun u => u.withSenderOf r)

/-- R254: no register that is unspecified after reset is read before it is written. Two states that agree on what is live
take steps that agree on what is live, and show the outside the same. -/
def Obligations.UnspecifiedRegistersAreNeverRead : Prop :=
  ∀ s t s' : State, s.Inv → t.Inv → s.LiveEq t → step s = .next s' →
    ∃ t' : State, step t = .next t' ∧ s'.LiveEq t'

/-- R109, R173 (h): a step emits telemetry only for the message of a full sequence that passes CHK16, without its last two
bytes, and at most once. -/
def Obligations.TelemetryOnlyForCheckedMessages : Prop :=
  ∀ s t : State, step s = .next t →
    ∃ new : List Event, t.trace = s.trace ++ new ∧
      ∀ d, .telemetry d ∈ new →
        new = [.telemetry d, .label .completeOk] ∧ s.rstep = .pComplete ∧ s.sequenceFull = true ∧
        chk16 s.message = true ∧ d = s.message.take (s.message.length - 2)

/-- R166, R170, R174: within a sequence the retry counter counts the re-requests decided, and never exceeds 5; so a
sequence gets at most five. -/
def Obligations.RetryCountsTheRerequests : Prop :=
  ∀ s t : State, s.Inv → step s = .next t → s.expectedCount ≠ 0 → t.expectedCount ≠ 0 →
    t.retry.toNat ≤ 5 ∧
    t.trace.count (.label .rereq) = s.trace.count (.label .rereq) + (t.retry.toNat - s.retry.toNat) ∧
    s.retry.toNat ≤ t.retry.toNat

/-- R65, R191 with R193 and R194: the holder of the lock has released it by its fourth turn, whatever turns of the other
activity and of the HOST stand between, and whatever the channel answers. In every run whose next turns `turns` hold four
of the holder's, a state with the lock free is reached within `turns`; the shortest such `turns` ends with the fourth. The
rules say "finitely many" steps; the bound of four counts the steps of a transaction as assumption log 1 does. -/
def Obligations.LockIsReleasedWithinFourSteps : Prop :=
  ∀ (s : State) (turns later : List Input), s.Inv → s.inputs = turns ++ later →
    (s.lock = .sender → 4 ≤ turns.countP (fun x => x.turn == .sender) →
      ∃ n t, n ≤ turns.length ∧ Host.Core.run Sys2Proof.core n s = .next t ∧ t.lock = .free) ∧
    (s.lock = .receiver → 4 ≤ turns.countP (fun x => x.turn == .receiver) →
      ∃ n t, n ≤ turns.length ∧ Host.Core.run Sys2Proof.core n s = .next t ∧ t.lock = .free)

/-- R33, R255: no operation writes the configuration. -/
def Obligations.ConfigurationIsNeverWritten : Prop :=
  ∀ (i : Instr) (s t : State), exec i s = .next t → t.cfg = s.cfg
end

