-- ==== Sys2Proof/Laws/Memory.lean ====
section
/-! SUPPORT. Slot memory: what a read gives after a write, and that every operation keeps the canonical form. -/

namespace Sys2Proof.Machine
open Sys2Proof

/-- A key below all keys of a list reads as unlisted. -/
theorem Memory.read_of_lt {m : Memory} {a : Nat} (h : ∀ c ∈ m, a < c.1) : m.read a = Memory.unlisted := by
  induction m with
  | nil => rfl
  | cons c m ih =>
    obtain ⟨k, v⟩ := c
    have hk : a < k := h (k, v) (by simp)
    have hne : ¬ k = a := by omega
    simp only [Memory.read, hne, if_false]
    exact ih fun c hc => h c (by simp [hc])

/-- Reading back the byte just written, or any other byte. -/
theorem Memory.read_write {m : Memory} (h : m.wf) (a b : Nat) (v : Byte) :
    (m.write a v).read b = if a = b then v else m.read b := by
  induction m with
  | nil =>
    by_cases hv : v = Memory.unlisted
    · simp [Memory.write, hv, Memory.read]
    · simp [Memory.write, hv, Memory.read]
  | cons c m ih =>
    obtain ⟨k, w⟩ := c
    obtain ⟨hp, hz⟩ := h
    rw [List.pairwise_cons] at hp
    have hwf : Memory.wf m := ⟨hp.2, fun c hc => hz c (by simp [hc])⟩
    have hbelow : ∀ x, x ≤ k → Memory.read m x = Memory.unlisted := fun x hx =>
      Memory.read_of_lt fun c hc => by have := hp.1 c hc; omega
    have ih := ih hwf
    simp only [Memory.write]
    split
    next hlt =>
      split
      next hv =>
        subst hv
        by_cases hab : a = b
        · subst hab
          have hne : ¬ k = a := by omega
          simp [Memory.read, hne, hbelow a (by omega)]
        · simp [hab]
      next hv =>
        by_cases hab : a = b <;> simp [Memory.read, hab]
    next hlt =>
      split
      next hak =>
        subst hak
        split
        next hv =>
          subst hv
          by_cases hab : a = b
          · subst hab; simp [hbelow a (by omega)]
          · simp [Memory.read, hab]
        next hv =>
          by_cases hab : a = b <;> simp [Memory.read, hab]
      next hak =>
        simp only [Memory.read]
        split
        next hkb => subst hkb; simp [hak]
        next hkb => exact ih

/-- A write leaves the keys of the list or adds its own. -/
theorem Memory.mem_write {m : Memory} {a : Nat} {v : Byte} {c : Host.Cell} (h : c ∈ m.write a v) :
    c ∈ m ∨ (c = (a, v) ∧ v ≠ Memory.unlisted) := by
  induction m with
  | nil =>
    simp only [Memory.write] at h
    split at h
    · simp at h
    · right; simp_all
  | cons d m ih =>
    obtain ⟨k, w⟩ := d
    simp only [Memory.write] at h
    split at h
    · split at h
      · exact .inl h
      · rcases List.mem_cons.mp h with h | h
        · exact .inr ⟨h, by assumption⟩
        · exact .inl h
    · split at h
      · split at h
        · exact .inl (List.mem_cons_of_mem _ h)
        · rcases List.mem_cons.mp h with h | h
          · exact .inr ⟨h, by assumption⟩
          · exact .inl (List.mem_cons_of_mem _ h)
      · rcases List.mem_cons.mp h with h | h
        · exact .inl (by simp [h])
        · rcases ih h with h | h
          · exact .inl (List.mem_cons_of_mem _ h)
          · exact .inr h

/-- A write keeps the canonical form. -/
theorem Memory.write_wf {m : Memory} (h : m.wf) (a : Nat) (v : Byte) : (m.write a v).wf := by
  refine ⟨?_, ?_⟩
  · induction m with
    | nil => simp only [Memory.write]; split <;> simp
    | cons c m ih =>
      obtain ⟨k, w⟩ := c
      obtain ⟨hp, hz⟩ := h
      have hp' := List.pairwise_cons.mp hp
      have hwf : Memory.wf m := ⟨hp'.2, fun c hc => hz c (by simp [hc])⟩
      have above : ∀ c ∈ m, k < c.1 := hp'.1
      simp only [Memory.write]
      split
      next hlt =>
        split
        · exact hp
        · refine List.pairwise_cons.mpr ⟨fun c hc => ?_, hp⟩
          rcases List.mem_cons.mp hc with hc | hc
          · simpa [hc] using hlt
          · have := above c hc; show a < c.1; omega
      next hlt =>
        split
        next hak =>
          subst hak
          split
          · exact hp'.2
          · exact List.pairwise_cons.mpr ⟨above, hp'.2⟩
        next hak =>
          refine List.pairwise_cons.mpr ⟨fun c hc => ?_, ih hwf⟩
          rcases Memory.mem_write hc with hc | ⟨hc, -⟩
          · exact above c hc
          · subst hc; show k < a; omega
  · intro c hc
    rcases Memory.mem_write hc with hc | ⟨hc, hv⟩
    · exact h.2 c hc
    · simpa [hc] using hv

/-- `MemWrite` keeps the canonical form. -/
theorem Memory.writeSlot_wf {m : Memory} (h : m.wf) (i o : Nat) (b : Bytes) : (m.writeSlot i o b).wf := by
  induction b generalizing m o with
  | nil => exact h
  | cons x b ih => exact ih (Memory.write_wf h _ _) _

/-- Slot memory after reset has the canonical form. -/
theorem Memory.reset_wf : State.reset.slotData.wf := by simp [State.reset, Memory.wf]

/-- The keys number the pairs (index, offset) without a clash, for the indices that exist. -/
theorem slotKey_inj {i j o p : Nat} (hi : i < 16) (hj : j < 16) (h : slotKey i o = slotKey j p) : i = j ∧ o = p := by
  simp only [slotKey] at h
  omega

/-- Reading one byte after `MemWrite`: inside the written range the written byte, elsewhere what was there. -/
theorem Memory.read_writeSlot {m : Memory} (h : m.wf) {i j : Nat} (hi : i < 16) (hj : j < 16) (o p : Nat) (b : Bytes) :
    (m.writeSlot i o b).read (slotKey j p) =
      if i = j ∧ o ≤ p ∧ p < o + b.length then b.getD (p - o) 0 else m.read (slotKey j p) := by
  induction b generalizing m o with
  | nil =>
    rw [if_neg (by simp)]
    rfl
  | cons x b ih =>
    simp only [Memory.writeSlot, List.length_cons]
    rw [ih (Memory.write_wf h _ _), Memory.read_write h]
    by_cases hij : i = j
    · subst hij
      rcases Nat.lt_trichotomy p o with hp | hp | hp
      · have hne : ¬ slotKey i o = slotKey i p := fun e => by have := slotKey_inj hi hi e; omega
        rw [if_neg (by omega), if_neg hne, if_neg (by omega)]
      · subst hp
        rw [if_neg (by omega), if_pos rfl, if_pos (by omega)]
        simp
      · have hne : ¬ slotKey i o = slotKey i p := fun e => by have := slotKey_inj hi hi e; omega
        by_cases hb : p < o + (b.length + 1)
        · rw [if_pos (by omega), if_pos (by omega)]
          obtain ⟨d, rfl⟩ : ∃ d, p = o + (d + 1) := ⟨p - o - 1, by omega⟩
          simp [show o + (d + 1) - (o + 1) = d by omega, show o + (d + 1) - o = d + 1 by omega]
        · rw [if_neg (by omega), if_neg hne, if_neg (by omega)]
    · have hne : ¬ slotKey i o = slotKey j p := fun e => hij (slotKey_inj hi hj e).1
      simp [hij, hne]

/-- `MemRead` gives as many bytes as asked for. -/
@[simp] theorem Memory.readSlot_length (m : Memory) (i o n : Nat) : (m.readSlot i o n).length = n := by
  induction n generalizing o with
  | zero => rfl
  | succ n ih => simp [Memory.readSlot, ih]

/-- `MemRead` depends only on the bytes it reads. -/
theorem Memory.readSlot_congr {m m' : Memory} {i o n : Nat}
    (h : ∀ p, o ≤ p → p < o + n → m.read (slotKey i p) = m'.read (slotKey i p)) :
    m.readSlot i o n = m'.readSlot i o n := by
  induction n generalizing o with
  | zero => rfl
  | succ n ih =>
    simp only [Memory.readSlot]
    rw [h o (by omega) (by omega), ih fun p hp hq => h p (by omega) (by omega)]

/-- `MemRead` of what `MemWrite` wrote. -/
theorem Memory.readSlot_writeSlot_same {m : Memory} (h : m.wf) {i : Nat} (hi : i < 16) (o : Nat) (b : Bytes) :
    (m.writeSlot i o b).readSlot i o b.length = b := by
  induction b generalizing m o with
  | nil => rfl
  | cons x b ih =>
    have hw := Memory.write_wf h (slotKey i o) x
    simp only [Memory.writeSlot, List.length_cons, Memory.readSlot]
    rw [ih hw, Memory.read_writeSlot hw hi hi, if_neg (by omega), Memory.read_write h, if_pos rfl]

/-- `MemRead` of another slot is not changed by `MemWrite`. -/
theorem Memory.readSlot_writeSlot_other {m : Memory} (h : m.wf) {i j : Nat} (hi : i < 16) (hj : j < 16) (hij : i ≠ j)
    (o p n : Nat) (b : Bytes) : (m.writeSlot i o b).readSlot j p n = m.readSlot j p n :=
  Memory.readSlot_congr fun q _ _ => by rw [Memory.read_writeSlot h hi hj, if_neg (by omega)]

end Sys2Proof.Machine
end

