-- ==== Sys2Proof/Laws/State.lean ====
section
/-! SUPPORT. One lemma per field per update of the state, so that no later proof unfolds a record update. -/

namespace Sys2Proof.Machine
open Sys2Proof

variable (s : State)

@[simp] theorem State.emit_cfg (es : List Event) : (s.emit es).cfg = s.cfg := rfl
@[simp] theorem State.emit_present (es : List Event) : (s.emit es).present = s.present := rfl
@[simp] theorem State.emit_slotLen (es : List Event) : (s.emit es).slotLen = s.slotLen := rfl
@[simp] theorem State.emit_slotData (es : List Event) : (s.emit es).slotData = s.slotData := rfl
@[simp] theorem State.emit_expectedCount (es : List Event) : (s.emit es).expectedCount = s.expectedCount := rfl
@[simp] theorem State.emit_retry (es : List Event) : (s.emit es).retry = s.retry := rfl
@[simp] theorem State.emit_lastActivity (es : List Event) : (s.emit es).lastActivity = s.lastActivity := rfl
@[simp] theorem State.emit_reqIndex (es : List Event) : (s.emit es).reqIndex = s.reqIndex := rfl
@[simp] theorem State.emit_lock (es : List Event) : (s.emit es).lock = s.lock := rfl
@[simp] theorem State.emit_listen (es : List Event) : (s.emit es).listen = s.listen := rfl
@[simp] theorem State.emit_rstep (es : List Event) : (s.emit es).rstep = s.rstep := rfl
@[simp] theorem State.emit_sstep (es : List Event) : (s.emit es).sstep = s.sstep := rfl
@[simp] theorem State.emit_nextSync (es : List Event) : (s.emit es).nextSync = s.nextSync := rfl
@[simp] theorem State.emit_wakeR (es : List Event) : (s.emit es).wakeR = s.wakeR := rfl
@[simp] theorem State.emit_txbufS (es : List Event) : (s.emit es).txbufS = s.txbufS := rfl
@[simp] theorem State.emit_txbufR (es : List Event) : (s.emit es).txbufR = s.txbufR := rfl
@[simp] theorem State.emit_rxbuf (es : List Event) : (s.emit es).rxbuf = s.rxbuf := rfl
@[simp] theorem State.emit_rxlen (es : List Event) : (s.emit es).rxlen = s.rxlen := rfl
@[simp] theorem State.emit_txnS (es : List Event) : (s.emit es).txnS = s.txnS := rfl
@[simp] theorem State.emit_txnR (es : List Event) : (s.emit es).txnR = s.txnR := rfl
@[simp] theorem State.emit_rxPhase (es : List Event) : (s.emit es).rxPhase = s.rxPhase := rfl
@[simp] theorem State.emit_sleepArmed (es : List Event) : (s.emit es).sleepArmed = s.sleepArmed := rfl
@[simp] theorem State.emit_port (es : List Event) : (s.emit es).port = s.port := rfl
@[simp] theorem State.emit_inputs (es : List Event) : (s.emit es).inputs = s.inputs := rfl
@[simp] theorem State.emit_requests (es : List Event) : (s.emit es).requests = s.requests := rfl
@[simp] theorem State.emit_cycle (es : List Event) : (s.emit es).cycle = s.cycle := rfl
@[simp] theorem State.emit_trace (es : List Event) : (s.emit es).trace = s.trace ++ es := rfl

@[simp] theorem State.raise_cfg (l : Label) : (s.raise l).cfg = s.cfg := rfl
@[simp] theorem State.raise_present (l : Label) : (s.raise l).present = s.present := rfl
@[simp] theorem State.raise_slotLen (l : Label) : (s.raise l).slotLen = s.slotLen := rfl
@[simp] theorem State.raise_slotData (l : Label) : (s.raise l).slotData = s.slotData := rfl
@[simp] theorem State.raise_expectedCount (l : Label) : (s.raise l).expectedCount = s.expectedCount := rfl
@[simp] theorem State.raise_retry (l : Label) : (s.raise l).retry = s.retry := rfl
@[simp] theorem State.raise_lastActivity (l : Label) : (s.raise l).lastActivity = s.lastActivity := rfl
@[simp] theorem State.raise_reqIndex (l : Label) : (s.raise l).reqIndex = s.reqIndex := rfl
@[simp] theorem State.raise_lock (l : Label) : (s.raise l).lock = s.lock := rfl
@[simp] theorem State.raise_listen (l : Label) : (s.raise l).listen = s.listen := rfl
@[simp] theorem State.raise_rstep (l : Label) : (s.raise l).rstep = s.rstep := rfl
@[simp] theorem State.raise_sstep (l : Label) : (s.raise l).sstep = s.sstep := rfl
@[simp] theorem State.raise_nextSync (l : Label) : (s.raise l).nextSync = s.nextSync := rfl
@[simp] theorem State.raise_wakeR (l : Label) : (s.raise l).wakeR = s.wakeR := rfl
@[simp] theorem State.raise_txbufS (l : Label) : (s.raise l).txbufS = s.txbufS := rfl
@[simp] theorem State.raise_txbufR (l : Label) : (s.raise l).txbufR = s.txbufR := rfl
@[simp] theorem State.raise_rxbuf (l : Label) : (s.raise l).rxbuf = s.rxbuf := rfl
@[simp] theorem State.raise_rxlen (l : Label) : (s.raise l).rxlen = s.rxlen := rfl
@[simp] theorem State.raise_txnS (l : Label) : (s.raise l).txnS = s.txnS := rfl
@[simp] theorem State.raise_txnR (l : Label) : (s.raise l).txnR = s.txnR := rfl
@[simp] theorem State.raise_rxPhase (l : Label) : (s.raise l).rxPhase = s.rxPhase := rfl
@[simp] theorem State.raise_sleepArmed (l : Label) : (s.raise l).sleepArmed = s.sleepArmed := rfl
@[simp] theorem State.raise_port (l : Label) : (s.raise l).port = s.port := rfl
@[simp] theorem State.raise_inputs (l : Label) : (s.raise l).inputs = s.inputs := rfl
@[simp] theorem State.raise_requests (l : Label) : (s.raise l).requests = s.requests := rfl
@[simp] theorem State.raise_cycle (l : Label) : (s.raise l).cycle = s.cycle := rfl
@[simp] theorem State.raise_trace (l : Label) : (s.raise l).trace = s.trace ++ [.label l] := rfl

@[simp] theorem State.resumeAt_cfg (r : RStep) : (s.resumeAt r).cfg = s.cfg := rfl
@[simp] theorem State.resumeAt_present (r : RStep) : (s.resumeAt r).present = s.present := rfl
@[simp] theorem State.resumeAt_slotLen (r : RStep) : (s.resumeAt r).slotLen = s.slotLen := rfl
@[simp] theorem State.resumeAt_slotData (r : RStep) : (s.resumeAt r).slotData = s.slotData := rfl
@[simp] theorem State.resumeAt_expectedCount (r : RStep) : (s.resumeAt r).expectedCount = s.expectedCount := rfl
@[simp] theorem State.resumeAt_retry (r : RStep) : (s.resumeAt r).retry = s.retry := rfl
@[simp] theorem State.resumeAt_lastActivity (r : RStep) : (s.resumeAt r).lastActivity = s.lastActivity := rfl
@[simp] theorem State.resumeAt_reqIndex (r : RStep) : (s.resumeAt r).reqIndex = s.reqIndex := rfl
@[simp] theorem State.resumeAt_lock (r : RStep) : (s.resumeAt r).lock = s.lock := rfl
@[simp] theorem State.resumeAt_listen (r : RStep) : (s.resumeAt r).listen = s.listen := rfl
@[simp] theorem State.resumeAt_rstep (r : RStep) : (s.resumeAt r).rstep = r := rfl
@[simp] theorem State.resumeAt_sstep (r : RStep) : (s.resumeAt r).sstep = s.sstep := rfl
@[simp] theorem State.resumeAt_nextSync (r : RStep) : (s.resumeAt r).nextSync = s.nextSync := rfl
@[simp] theorem State.resumeAt_wakeR (r : RStep) : (s.resumeAt r).wakeR = s.wakeR := rfl
@[simp] theorem State.resumeAt_txbufS (r : RStep) : (s.resumeAt r).txbufS = s.txbufS := rfl
@[simp] theorem State.resumeAt_txbufR (r : RStep) : (s.resumeAt r).txbufR = s.txbufR := rfl
@[simp] theorem State.resumeAt_rxbuf (r : RStep) : (s.resumeAt r).rxbuf = s.rxbuf := rfl
@[simp] theorem State.resumeAt_rxlen (r : RStep) : (s.resumeAt r).rxlen = s.rxlen := rfl
@[simp] theorem State.resumeAt_txnS (r : RStep) : (s.resumeAt r).txnS = s.txnS := rfl
@[simp] theorem State.resumeAt_txnR (r : RStep) : (s.resumeAt r).txnR = s.txnR := rfl
@[simp] theorem State.resumeAt_rxPhase (r : RStep) : (s.resumeAt r).rxPhase = s.rxPhase := rfl
@[simp] theorem State.resumeAt_sleepArmed (r : RStep) : (s.resumeAt r).sleepArmed = s.sleepArmed := rfl
@[simp] theorem State.resumeAt_port (r : RStep) : (s.resumeAt r).port = s.port := rfl
@[simp] theorem State.resumeAt_inputs (r : RStep) : (s.resumeAt r).inputs = s.inputs := rfl
@[simp] theorem State.resumeAt_requests (r : RStep) : (s.resumeAt r).requests = s.requests := rfl
@[simp] theorem State.resumeAt_cycle (r : RStep) : (s.resumeAt r).cycle = s.cycle := rfl
@[simp] theorem State.resumeAt_trace (r : RStep) : (s.resumeAt r).trace = s.trace := rfl

@[simp] theorem State.setPresent_cfg (i : Nat) : (s.setPresent i).cfg = s.cfg := rfl
@[simp] theorem State.setPresent_present (i : Nat) : (s.setPresent i).present = s.present.setIfInBounds (i - 1) true := rfl
@[simp] theorem State.setPresent_slotLen (i : Nat) : (s.setPresent i).slotLen = s.slotLen := rfl
@[simp] theorem State.setPresent_slotData (i : Nat) : (s.setPresent i).slotData = s.slotData := rfl
@[simp] theorem State.setPresent_expectedCount (i : Nat) : (s.setPresent i).expectedCount = s.expectedCount := rfl
@[simp] theorem State.setPresent_retry (i : Nat) : (s.setPresent i).retry = s.retry := rfl
@[simp] theorem State.setPresent_lastActivity (i : Nat) : (s.setPresent i).lastActivity = s.lastActivity := rfl
@[simp] theorem State.setPresent_reqIndex (i : Nat) : (s.setPresent i).reqIndex = s.reqIndex := rfl
@[simp] theorem State.setPresent_lock (i : Nat) : (s.setPresent i).lock = s.lock := rfl
@[simp] theorem State.setPresent_listen (i : Nat) : (s.setPresent i).listen = s.listen := rfl
@[simp] theorem State.setPresent_rstep (i : Nat) : (s.setPresent i).rstep = s.rstep := rfl
@[simp] theorem State.setPresent_sstep (i : Nat) : (s.setPresent i).sstep = s.sstep := rfl
@[simp] theorem State.setPresent_nextSync (i : Nat) : (s.setPresent i).nextSync = s.nextSync := rfl
@[simp] theorem State.setPresent_wakeR (i : Nat) : (s.setPresent i).wakeR = s.wakeR := rfl
@[simp] theorem State.setPresent_txbufS (i : Nat) : (s.setPresent i).txbufS = s.txbufS := rfl
@[simp] theorem State.setPresent_txbufR (i : Nat) : (s.setPresent i).txbufR = s.txbufR := rfl
@[simp] theorem State.setPresent_rxbuf (i : Nat) : (s.setPresent i).rxbuf = s.rxbuf := rfl
@[simp] theorem State.setPresent_rxlen (i : Nat) : (s.setPresent i).rxlen = s.rxlen := rfl
@[simp] theorem State.setPresent_txnS (i : Nat) : (s.setPresent i).txnS = s.txnS := rfl
@[simp] theorem State.setPresent_txnR (i : Nat) : (s.setPresent i).txnR = s.txnR := rfl
@[simp] theorem State.setPresent_rxPhase (i : Nat) : (s.setPresent i).rxPhase = s.rxPhase := rfl
@[simp] theorem State.setPresent_sleepArmed (i : Nat) : (s.setPresent i).sleepArmed = s.sleepArmed := rfl
@[simp] theorem State.setPresent_port (i : Nat) : (s.setPresent i).port = s.port := rfl
@[simp] theorem State.setPresent_inputs (i : Nat) : (s.setPresent i).inputs = s.inputs := rfl
@[simp] theorem State.setPresent_requests (i : Nat) : (s.setPresent i).requests = s.requests := rfl
@[simp] theorem State.setPresent_cycle (i : Nat) : (s.setPresent i).cycle = s.cycle := rfl
@[simp] theorem State.setPresent_trace (i : Nat) : (s.setPresent i).trace = s.trace := rfl

@[simp] theorem State.clearPresent_cfg : (s.clearPresent).cfg = s.cfg := rfl
@[simp] theorem State.clearPresent_present : (s.clearPresent).present = Vector.replicate 15 false := rfl
@[simp] theorem State.clearPresent_slotLen : (s.clearPresent).slotLen = s.slotLen := rfl
@[simp] theorem State.clearPresent_slotData : (s.clearPresent).slotData = s.slotData := rfl
@[simp] theorem State.clearPresent_expectedCount : (s.clearPresent).expectedCount = s.expectedCount := rfl
@[simp] theorem State.clearPresent_retry : (s.clearPresent).retry = s.retry := rfl
@[simp] theorem State.clearPresent_lastActivity : (s.clearPresent).lastActivity = s.lastActivity := rfl
@[simp] theorem State.clearPresent_reqIndex : (s.clearPresent).reqIndex = s.reqIndex := rfl
@[simp] theorem State.clearPresent_lock : (s.clearPresent).lock = s.lock := rfl
@[simp] theorem State.clearPresent_listen : (s.clearPresent).listen = s.listen := rfl
@[simp] theorem State.clearPresent_rstep : (s.clearPresent).rstep = s.rstep := rfl
@[simp] theorem State.clearPresent_sstep : (s.clearPresent).sstep = s.sstep := rfl
@[simp] theorem State.clearPresent_nextSync : (s.clearPresent).nextSync = s.nextSync := rfl
@[simp] theorem State.clearPresent_wakeR : (s.clearPresent).wakeR = s.wakeR := rfl
@[simp] theorem State.clearPresent_txbufS : (s.clearPresent).txbufS = s.txbufS := rfl
@[simp] theorem State.clearPresent_txbufR : (s.clearPresent).txbufR = s.txbufR := rfl
@[simp] theorem State.clearPresent_rxbuf : (s.clearPresent).rxbuf = s.rxbuf := rfl
@[simp] theorem State.clearPresent_rxlen : (s.clearPresent).rxlen = s.rxlen := rfl
@[simp] theorem State.clearPresent_txnS : (s.clearPresent).txnS = s.txnS := rfl
@[simp] theorem State.clearPresent_txnR : (s.clearPresent).txnR = s.txnR := rfl
@[simp] theorem State.clearPresent_rxPhase : (s.clearPresent).rxPhase = s.rxPhase := rfl
@[simp] theorem State.clearPresent_sleepArmed : (s.clearPresent).sleepArmed = s.sleepArmed := rfl
@[simp] theorem State.clearPresent_port : (s.clearPresent).port = s.port := rfl
@[simp] theorem State.clearPresent_inputs : (s.clearPresent).inputs = s.inputs := rfl
@[simp] theorem State.clearPresent_requests : (s.clearPresent).requests = s.requests := rfl
@[simp] theorem State.clearPresent_cycle : (s.clearPresent).cycle = s.cycle := rfl
@[simp] theorem State.clearPresent_trace : (s.clearPresent).trace = s.trace := rfl

@[simp] theorem State.setListen_cfg (a : Activity) (b : Bool) : (s.setListen a b).cfg = s.cfg := rfl
@[simp] theorem State.setListen_present (a : Activity) (b : Bool) : (s.setListen a b).present = s.present := rfl
@[simp] theorem State.setListen_slotLen (a : Activity) (b : Bool) : (s.setListen a b).slotLen = s.slotLen := rfl
@[simp] theorem State.setListen_slotData (a : Activity) (b : Bool) : (s.setListen a b).slotData = s.slotData := rfl
@[simp] theorem State.setListen_expectedCount (a : Activity) (b : Bool) : (s.setListen a b).expectedCount = s.expectedCount := rfl
@[simp] theorem State.setListen_retry (a : Activity) (b : Bool) : (s.setListen a b).retry = s.retry := rfl
@[simp] theorem State.setListen_lastActivity (a : Activity) (b : Bool) : (s.setListen a b).lastActivity = s.lastActivity := rfl
@[simp] theorem State.setListen_reqIndex (a : Activity) (b : Bool) : (s.setListen a b).reqIndex = s.reqIndex := rfl
@[simp] theorem State.setListen_lock (a : Activity) (b : Bool) : (s.setListen a b).lock = s.lock := rfl
@[simp] theorem State.setListen_listen (a : Activity) (b : Bool) : (s.setListen a b).listen = b := rfl
@[simp] theorem State.setListen_rstep (a : Activity) (b : Bool) : (s.setListen a b).rstep = s.rstep := rfl
@[simp] theorem State.setListen_sstep (a : Activity) (b : Bool) : (s.setListen a b).sstep = s.sstep := rfl
@[simp] theorem State.setListen_nextSync (a : Activity) (b : Bool) : (s.setListen a b).nextSync = s.nextSync := rfl
@[simp] theorem State.setListen_wakeR (a : Activity) (b : Bool) : (s.setListen a b).wakeR = s.wakeR := rfl
@[simp] theorem State.setListen_txbufS (a : Activity) (b : Bool) : (s.setListen a b).txbufS = s.txbufS := rfl
@[simp] theorem State.setListen_txbufR (a : Activity) (b : Bool) : (s.setListen a b).txbufR = s.txbufR := rfl
@[simp] theorem State.setListen_rxbuf (a : Activity) (b : Bool) : (s.setListen a b).rxbuf = s.rxbuf := rfl
@[simp] theorem State.setListen_rxlen (a : Activity) (b : Bool) : (s.setListen a b).rxlen = s.rxlen := rfl
@[simp] theorem State.setListen_txnS (a : Activity) (b : Bool) : (s.setListen a b).txnS = s.txnS := rfl
@[simp] theorem State.setListen_txnR (a : Activity) (b : Bool) : (s.setListen a b).txnR = s.txnR := rfl
@[simp] theorem State.setListen_rxPhase (a : Activity) (b : Bool) : (s.setListen a b).rxPhase = s.rxPhase := rfl
@[simp] theorem State.setListen_sleepArmed (a : Activity) (b : Bool) : (s.setListen a b).sleepArmed = s.sleepArmed := rfl
@[simp] theorem State.setListen_port (a : Activity) (b : Bool) : (s.setListen a b).port = s.port := rfl
@[simp] theorem State.setListen_inputs (a : Activity) (b : Bool) : (s.setListen a b).inputs = s.inputs := rfl
@[simp] theorem State.setListen_requests (a : Activity) (b : Bool) : (s.setListen a b).requests = s.requests := rfl
@[simp] theorem State.setListen_cycle (a : Activity) (b : Bool) : (s.setListen a b).cycle = s.cycle := rfl
@[simp] theorem State.setListen_trace (a : Activity) (b : Bool) : (s.setListen a b).trace = s.trace ++ [.setListenMode a b] := rfl

@[simp] theorem State.resetbuf_cfg : (s.resetbuf).cfg = s.cfg := rfl
@[simp] theorem State.resetbuf_present : (s.resetbuf).present = Vector.replicate 15 false := rfl
@[simp] theorem State.resetbuf_slotLen : (s.resetbuf).slotLen = s.slotLen := rfl
@[simp] theorem State.resetbuf_slotData : (s.resetbuf).slotData = s.slotData := rfl
@[simp] theorem State.resetbuf_expectedCount : (s.resetbuf).expectedCount = 0 := rfl
@[simp] theorem State.resetbuf_retry : (s.resetbuf).retry = 0 := rfl
@[simp] theorem State.resetbuf_lastActivity : (s.resetbuf).lastActivity = s.lastActivity := rfl
@[simp] theorem State.resetbuf_reqIndex : (s.resetbuf).reqIndex = s.reqIndex := rfl
@[simp] theorem State.resetbuf_lock : (s.resetbuf).lock = s.lock := rfl
@[simp] theorem State.resetbuf_listen : (s.resetbuf).listen = s.listen := rfl
@[simp] theorem State.resetbuf_rstep : (s.resetbuf).rstep = s.rstep := rfl
@[simp] theorem State.resetbuf_sstep : (s.resetbuf).sstep = s.sstep := rfl
@[simp] theorem State.resetbuf_nextSync : (s.resetbuf).nextSync = s.nextSync := rfl
@[simp] theorem State.resetbuf_wakeR : (s.resetbuf).wakeR = s.wakeR := rfl
@[simp] theorem State.resetbuf_txbufS : (s.resetbuf).txbufS = s.txbufS := rfl
@[simp] theorem State.resetbuf_txbufR : (s.resetbuf).txbufR = s.txbufR := rfl
@[simp] theorem State.resetbuf_rxbuf : (s.resetbuf).rxbuf = s.rxbuf := rfl
@[simp] theorem State.resetbuf_rxlen : (s.resetbuf).rxlen = s.rxlen := rfl
@[simp] theorem State.resetbuf_txnS : (s.resetbuf).txnS = s.txnS := rfl
@[simp] theorem State.resetbuf_txnR : (s.resetbuf).txnR = s.txnR := rfl
@[simp] theorem State.resetbuf_rxPhase : (s.resetbuf).rxPhase = s.rxPhase := rfl
@[simp] theorem State.resetbuf_sleepArmed : (s.resetbuf).sleepArmed = s.sleepArmed := rfl
@[simp] theorem State.resetbuf_port : (s.resetbuf).port = s.port := rfl
@[simp] theorem State.resetbuf_inputs : (s.resetbuf).inputs = s.inputs := rfl
@[simp] theorem State.resetbuf_requests : (s.resetbuf).requests = s.requests := rfl
@[simp] theorem State.resetbuf_cycle : (s.resetbuf).cycle = s.cycle := rfl
@[simp] theorem State.resetbuf_trace : (s.resetbuf).trace = s.trace := rfl

@[simp] theorem State.storeSlot_cfg (i : Nat) (body : Bytes) : (s.storeSlot i body).cfg = s.cfg := rfl
@[simp] theorem State.storeSlot_present (i : Nat) (body : Bytes) : (s.storeSlot i body).present = s.present.setIfInBounds (i - 1) true := rfl
@[simp] theorem State.storeSlot_slotLen (i : Nat) (body : Bytes) : (s.storeSlot i body).slotLen = s.slotLen.setIfInBounds (i - 1) body.length := rfl
@[simp] theorem State.storeSlot_slotData (i : Nat) (body : Bytes) : (s.storeSlot i body).slotData = s.slotData.writeSlot i 0 body := rfl
@[simp] theorem State.storeSlot_expectedCount (i : Nat) (body : Bytes) : (s.storeSlot i body).expectedCount = s.expectedCount := rfl
@[simp] theorem State.storeSlot_retry (i : Nat) (body : Bytes) : (s.storeSlot i body).retry = s.retry := rfl
@[simp] theorem State.storeSlot_lastActivity (i : Nat) (body : Bytes) : (s.storeSlot i body).lastActivity = s.lastActivity := rfl
@[simp] theorem State.storeSlot_reqIndex (i : Nat) (body : Bytes) : (s.storeSlot i body).reqIndex = s.reqIndex := rfl
@[simp] theorem State.storeSlot_lock (i : Nat) (body : Bytes) : (s.storeSlot i body).lock = s.lock := rfl
@[simp] theorem State.storeSlot_listen (i : Nat) (body : Bytes) : (s.storeSlot i body).listen = s.listen := rfl
@[simp] theorem State.storeSlot_rstep (i : Nat) (body : Bytes) : (s.storeSlot i body).rstep = s.rstep := rfl
@[simp] theorem State.storeSlot_sstep (i : Nat) (body : Bytes) : (s.storeSlot i body).sstep = s.sstep := rfl
@[simp] theorem State.storeSlot_nextSync (i : Nat) (body : Bytes) : (s.storeSlot i body).nextSync = s.nextSync := rfl
@[simp] theorem State.storeSlot_wakeR (i : Nat) (body : Bytes) : (s.storeSlot i body).wakeR = s.wakeR := rfl
@[simp] theorem State.storeSlot_txbufS (i : Nat) (body : Bytes) : (s.storeSlot i body).txbufS = s.txbufS := rfl
@[simp] theorem State.storeSlot_txbufR (i : Nat) (body : Bytes) : (s.storeSlot i body).txbufR = s.txbufR := rfl
@[simp] theorem State.storeSlot_rxbuf (i : Nat) (body : Bytes) : (s.storeSlot i body).rxbuf = s.rxbuf := rfl
@[simp] theorem State.storeSlot_rxlen (i : Nat) (body : Bytes) : (s.storeSlot i body).rxlen = s.rxlen := rfl
@[simp] theorem State.storeSlot_txnS (i : Nat) (body : Bytes) : (s.storeSlot i body).txnS = s.txnS := rfl
@[simp] theorem State.storeSlot_txnR (i : Nat) (body : Bytes) : (s.storeSlot i body).txnR = s.txnR := rfl
@[simp] theorem State.storeSlot_rxPhase (i : Nat) (body : Bytes) : (s.storeSlot i body).rxPhase = s.rxPhase := rfl
@[simp] theorem State.storeSlot_sleepArmed (i : Nat) (body : Bytes) : (s.storeSlot i body).sleepArmed = s.sleepArmed := rfl
@[simp] theorem State.storeSlot_port (i : Nat) (body : Bytes) : (s.storeSlot i body).port = s.port := rfl
@[simp] theorem State.storeSlot_inputs (i : Nat) (body : Bytes) : (s.storeSlot i body).inputs = s.inputs := rfl
@[simp] theorem State.storeSlot_requests (i : Nat) (body : Bytes) : (s.storeSlot i body).requests = s.requests := rfl
@[simp] theorem State.storeSlot_cycle (i : Nat) (body : Bytes) : (s.storeSlot i body).cycle = s.cycle := rfl
@[simp] theorem State.storeSlot_trace (i : Nat) (body : Bytes) : (s.storeSlot i body).trace = s.trace := rfl

@[simp] theorem State.readFragment_cfg : (s.readFragment).cfg = s.cfg := rfl
@[simp] theorem State.readFragment_present : (s.readFragment).present = s.present := rfl
@[simp] theorem State.readFragment_slotLen : (s.readFragment).slotLen = s.slotLen := rfl
@[simp] theorem State.readFragment_slotData : (s.readFragment).slotData = s.slotData := rfl
@[simp] theorem State.readFragment_expectedCount : (s.readFragment).expectedCount = s.expectedCount := rfl
@[simp] theorem State.readFragment_retry : (s.readFragment).retry = s.retry := rfl
@[simp] theorem State.readFragment_lastActivity : (s.readFragment).lastActivity = s.lastActivity := rfl
@[simp] theorem State.readFragment_reqIndex : (s.readFragment).reqIndex = s.reqIndex := rfl
@[simp] theorem State.readFragment_lock : (s.readFragment).lock = s.lock := rfl
@[simp] theorem State.readFragment_listen : (s.readFragment).listen = s.listen := rfl
@[simp] theorem State.readFragment_rstep : (s.readFragment).rstep = s.rstep := rfl
@[simp] theorem State.readFragment_sstep : (s.readFragment).sstep = s.sstep := rfl
@[simp] theorem State.readFragment_nextSync : (s.readFragment).nextSync = s.nextSync := rfl
@[simp] theorem State.readFragment_wakeR : (s.readFragment).wakeR = s.wakeR := rfl
@[simp] theorem State.readFragment_txbufS : (s.readFragment).txbufS = s.txbufS := rfl
@[simp] theorem State.readFragment_txbufR : (s.readFragment).txbufR = s.txbufR := rfl
@[simp] theorem State.readFragment_rxbuf : (s.readFragment).rxbuf = s.port.fragment.take s.cfg.maxFrameLen := rfl
@[simp] theorem State.readFragment_rxlen : (s.readFragment).rxlen = s.port.fragment.length := rfl
@[simp] theorem State.readFragment_txnS : (s.readFragment).txnS = s.txnS := rfl
@[simp] theorem State.readFragment_txnR : (s.readFragment).txnR = s.txnR := rfl
@[simp] theorem State.readFragment_rxPhase : (s.readFragment).rxPhase = s.rxPhase := rfl
@[simp] theorem State.readFragment_sleepArmed : (s.readFragment).sleepArmed = s.sleepArmed := rfl
@[simp] theorem State.readFragment_port : (s.readFragment).port = s.port := rfl
@[simp] theorem State.readFragment_inputs : (s.readFragment).inputs = s.inputs := rfl
@[simp] theorem State.readFragment_requests : (s.readFragment).requests = s.requests := rfl
@[simp] theorem State.readFragment_cycle : (s.readFragment).cycle = s.cycle := rfl
@[simp] theorem State.readFragment_trace : (s.readFragment).trace = s.trace ++ [.readFragment .receiver s.port.fragment] := rfl

@[simp] theorem State.decideRereq_cfg : (s.decideRereq).cfg = s.cfg := rfl
@[simp] theorem State.decideRereq_present : (s.decideRereq).present = s.present := rfl
@[simp] theorem State.decideRereq_slotLen : (s.decideRereq).slotLen = s.slotLen := rfl
@[simp] theorem State.decideRereq_slotData : (s.decideRereq).slotData = s.slotData := rfl
@[simp] theorem State.decideRereq_expectedCount : (s.decideRereq).expectedCount = s.expectedCount := rfl
@[simp] theorem State.decideRereq_retry : (s.decideRereq).retry = s.retry + 1 := rfl
@[simp] theorem State.decideRereq_lastActivity : (s.decideRereq).lastActivity = s.lastActivity := rfl
@[simp] theorem State.decideRereq_reqIndex : (s.decideRereq).reqIndex = s.chosenIndex := rfl
@[simp] theorem State.decideRereq_lock : (s.decideRereq).lock = s.lock := rfl
@[simp] theorem State.decideRereq_listen : (s.decideRereq).listen = s.listen := rfl
@[simp] theorem State.decideRereq_rstep : (s.decideRereq).rstep = .pRereq := rfl
@[simp] theorem State.decideRereq_sstep : (s.decideRereq).sstep = s.sstep := rfl
@[simp] theorem State.decideRereq_nextSync : (s.decideRereq).nextSync = s.nextSync := rfl
@[simp] theorem State.decideRereq_wakeR : (s.decideRereq).wakeR = s.wakeR := rfl
@[simp] theorem State.decideRereq_txbufS : (s.decideRereq).txbufS = s.txbufS := rfl
@[simp] theorem State.decideRereq_txbufR : (s.decideRereq).txbufR = s.txbufR := rfl
@[simp] theorem State.decideRereq_rxbuf : (s.decideRereq).rxbuf = s.rxbuf := rfl
@[simp] theorem State.decideRereq_rxlen : (s.decideRereq).rxlen = s.rxlen := rfl
@[simp] theorem State.decideRereq_txnS : (s.decideRereq).txnS = s.txnS := rfl
@[simp] theorem State.decideRereq_txnR : (s.decideRereq).txnR = s.txnR := rfl
@[simp] theorem State.decideRereq_rxPhase : (s.decideRereq).rxPhase = s.rxPhase := rfl
@[simp] theorem State.decideRereq_sleepArmed : (s.decideRereq).sleepArmed = s.sleepArmed := rfl
@[simp] theorem State.decideRereq_port : (s.decideRereq).port = s.port := rfl
@[simp] theorem State.decideRereq_inputs : (s.decideRereq).inputs = s.inputs := rfl
@[simp] theorem State.decideRereq_requests : (s.decideRereq).requests = s.requests := rfl
@[simp] theorem State.decideRereq_cycle : (s.decideRereq).cycle = s.cycle := rfl
@[simp] theorem State.decideRereq_trace : (s.decideRereq).trace = s.trace ++ [.label .rereq] := rfl

@[simp] theorem State.setTxn_cfg (a : Activity) (p : SendPhase) : (s.setTxn a p).cfg = s.cfg := by cases a <;> rfl
@[simp] theorem State.setTxn_present (a : Activity) (p : SendPhase) : (s.setTxn a p).present = s.present := by cases a <;> rfl
@[simp] theorem State.setTxn_slotLen (a : Activity) (p : SendPhase) : (s.setTxn a p).slotLen = s.slotLen := by cases a <;> rfl
@[simp] theorem State.setTxn_slotData (a : Activity) (p : SendPhase) : (s.setTxn a p).slotData = s.slotData := by cases a <;> rfl
@[simp] theorem State.setTxn_expectedCount (a : Activity) (p : SendPhase) : (s.setTxn a p).expectedCount = s.expectedCount := by cases a <;> rfl
@[simp] theorem State.setTxn_retry (a : Activity) (p : SendPhase) : (s.setTxn a p).retry = s.retry := by cases a <;> rfl
@[simp] theorem State.setTxn_lastActivity (a : Activity) (p : SendPhase) : (s.setTxn a p).lastActivity = s.lastActivity := by cases a <;> rfl
@[simp] theorem State.setTxn_reqIndex (a : Activity) (p : SendPhase) : (s.setTxn a p).reqIndex = s.reqIndex := by cases a <;> rfl
@[simp] theorem State.setTxn_lock (a : Activity) (p : SendPhase) : (s.setTxn a p).lock = s.lock := by cases a <;> rfl
@[simp] theorem State.setTxn_listen (a : Activity) (p : SendPhase) : (s.setTxn a p).listen = s.listen := by cases a <;> rfl
@[simp] theorem State.setTxn_rstep (a : Activity) (p : SendPhase) : (s.setTxn a p).rstep = s.rstep := by cases a <;> rfl
@[simp] theorem State.setTxn_sstep (a : Activity) (p : SendPhase) : (s.setTxn a p).sstep = s.sstep := by cases a <;> rfl
@[simp] theorem State.setTxn_nextSync (a : Activity) (p : SendPhase) : (s.setTxn a p).nextSync = s.nextSync := by cases a <;> rfl
@[simp] theorem State.setTxn_wakeR (a : Activity) (p : SendPhase) : (s.setTxn a p).wakeR = s.wakeR := by cases a <;> rfl
@[simp] theorem State.setTxn_txbufS (a : Activity) (p : SendPhase) : (s.setTxn a p).txbufS = s.txbufS := by cases a <;> rfl
@[simp] theorem State.setTxn_txbufR (a : Activity) (p : SendPhase) : (s.setTxn a p).txbufR = s.txbufR := by cases a <;> rfl
@[simp] theorem State.setTxn_rxbuf (a : Activity) (p : SendPhase) : (s.setTxn a p).rxbuf = s.rxbuf := by cases a <;> rfl
@[simp] theorem State.setTxn_rxlen (a : Activity) (p : SendPhase) : (s.setTxn a p).rxlen = s.rxlen := by cases a <;> rfl
@[simp] theorem State.setTxn_rxPhase (a : Activity) (p : SendPhase) : (s.setTxn a p).rxPhase = s.rxPhase := by cases a <;> rfl
@[simp] theorem State.setTxn_sleepArmed (a : Activity) (p : SendPhase) : (s.setTxn a p).sleepArmed = s.sleepArmed := by cases a <;> rfl
@[simp] theorem State.setTxn_port (a : Activity) (p : SendPhase) : (s.setTxn a p).port = s.port := by cases a <;> rfl
@[simp] theorem State.setTxn_inputs (a : Activity) (p : SendPhase) : (s.setTxn a p).inputs = s.inputs := by cases a <;> rfl
@[simp] theorem State.setTxn_requests (a : Activity) (p : SendPhase) : (s.setTxn a p).requests = s.requests := by cases a <;> rfl
@[simp] theorem State.setTxn_cycle (a : Activity) (p : SendPhase) : (s.setTxn a p).cycle = s.cycle := by cases a <;> rfl
@[simp] theorem State.setTxn_trace (a : Activity) (p : SendPhase) : (s.setTxn a p).trace = s.trace := by cases a <;> rfl

@[simp] theorem State.setTxbuf_cfg (a : Activity) (f : Bytes) : (s.setTxbuf a f).cfg = s.cfg := by cases a <;> rfl
@[simp] theorem State.setTxbuf_present (a : Activity) (f : Bytes) : (s.setTxbuf a f).present = s.present := by cases a <;> rfl
@[simp] theorem State.setTxbuf_slotLen (a : Activity) (f : Bytes) : (s.setTxbuf a f).slotLen = s.slotLen := by cases a <;> rfl
@[simp] theorem State.setTxbuf_slotData (a : Activity) (f : Bytes) : (s.setTxbuf a f).slotData = s.slotData := by cases a <;> rfl
@[simp] theorem State.setTxbuf_expectedCount (a : Activity) (f : Bytes) : (s.setTxbuf a f).expectedCount = s.expectedCount := by cases a <;> rfl
@[simp] theorem State.setTxbuf_retry (a : Activity) (f : Bytes) : (s.setTxbuf a f).retry = s.retry := by cases a <;> rfl
@[simp] theorem State.setTxbuf_lastActivity (a : Activity) (f : Bytes) : (s.setTxbuf a f).lastActivity = s.lastActivity := by cases a <;> rfl
@[simp] theorem State.setTxbuf_reqIndex (a : Activity) (f : Bytes) : (s.setTxbuf a f).reqIndex = s.reqIndex := by cases a <;> rfl
@[simp] theorem State.setTxbuf_lock (a : Activity) (f : Bytes) : (s.setTxbuf a f).lock = s.lock := by cases a <;> rfl
@[simp] theorem State.setTxbuf_listen (a : Activity) (f : Bytes) : (s.setTxbuf a f).listen = s.listen := by cases a <;> rfl
@[simp] theorem State.setTxbuf_rstep (a : Activity) (f : Bytes) : (s.setTxbuf a f).rstep = s.rstep := by cases a <;> rfl
@[simp] theorem State.setTxbuf_sstep (a : Activity) (f : Bytes) : (s.setTxbuf a f).sstep = s.sstep := by cases a <;> rfl
@[simp] theorem State.setTxbuf_nextSync (a : Activity) (f : Bytes) : (s.setTxbuf a f).nextSync = s.nextSync := by cases a <;> rfl
@[simp] theorem State.setTxbuf_wakeR (a : Activity) (f : Bytes) : (s.setTxbuf a f).wakeR = s.wakeR := by cases a <;> rfl
@[simp] theorem State.setTxbuf_rxbuf (a : Activity) (f : Bytes) : (s.setTxbuf a f).rxbuf = s.rxbuf := by cases a <;> rfl
@[simp] theorem State.setTxbuf_rxlen (a : Activity) (f : Bytes) : (s.setTxbuf a f).rxlen = s.rxlen := by cases a <;> rfl
@[simp] theorem State.setTxbuf_txnS (a : Activity) (f : Bytes) : (s.setTxbuf a f).txnS = s.txnS := by cases a <;> rfl
@[simp] theorem State.setTxbuf_txnR (a : Activity) (f : Bytes) : (s.setTxbuf a f).txnR = s.txnR := by cases a <;> rfl
@[simp] theorem State.setTxbuf_rxPhase (a : Activity) (f : Bytes) : (s.setTxbuf a f).rxPhase = s.rxPhase := by cases a <;> rfl
@[simp] theorem State.setTxbuf_sleepArmed (a : Activity) (f : Bytes) : (s.setTxbuf a f).sleepArmed = s.sleepArmed := by cases a <;> rfl
@[simp] theorem State.setTxbuf_port (a : Activity) (f : Bytes) : (s.setTxbuf a f).port = s.port := by cases a <;> rfl
@[simp] theorem State.setTxbuf_inputs (a : Activity) (f : Bytes) : (s.setTxbuf a f).inputs = s.inputs := by cases a <;> rfl
@[simp] theorem State.setTxbuf_requests (a : Activity) (f : Bytes) : (s.setTxbuf a f).requests = s.requests := by cases a <;> rfl
@[simp] theorem State.setTxbuf_cycle (a : Activity) (f : Bytes) : (s.setTxbuf a f).cycle = s.cycle := by cases a <;> rfl
@[simp] theorem State.setTxbuf_trace (a : Activity) (f : Bytes) : (s.setTxbuf a f).trace = s.trace := by cases a <;> rfl

@[simp] theorem State.setTxn_sender_txnS (p : SendPhase) : (s.setTxn .sender p).txnS = p := rfl
@[simp] theorem State.setTxn_sender_txnR (p : SendPhase) : (s.setTxn .sender p).txnR = s.txnR := rfl
@[simp] theorem State.setTxn_receiver_txnR (p : SendPhase) : (s.setTxn .receiver p).txnR = p := rfl
@[simp] theorem State.setTxn_receiver_txnS (p : SendPhase) : (s.setTxn .receiver p).txnS = s.txnS := rfl
@[simp] theorem State.setTxbuf_sender_txbufS (p : Bytes) : (s.setTxbuf .sender p).txbufS = p := rfl
@[simp] theorem State.setTxbuf_sender_txbufR (p : Bytes) : (s.setTxbuf .sender p).txbufR = s.txbufR := rfl
@[simp] theorem State.setTxbuf_receiver_txbufR (p : Bytes) : (s.setTxbuf .receiver p).txbufR = p := rfl
@[simp] theorem State.setTxbuf_receiver_txbufS (p : Bytes) : (s.setTxbuf .receiver p).txbufS = s.txbufS := rfl

@[simp] theorem State.txn_setTxn (a : Activity) (p : SendPhase) : (s.setTxn a p).txn a = p := by cases a <;> rfl
@[simp] theorem State.txbuf_setTxbuf (a : Activity) (f : Bytes) : (s.setTxbuf a f).txbuf a = f := by cases a <;> rfl
@[simp] theorem State.txbuf_setTxn (a b : Activity) (p : SendPhase) : (s.setTxn a p).txbuf b = s.txbuf b := by
  cases a <;> cases b <;> rfl
@[simp] theorem State.txn_setTxbuf (a b : Activity) (f : Bytes) : (s.setTxbuf a f).txn b = s.txn b := by
  cases a <;> cases b <;> rfl
@[simp] theorem State.txn_emit (a : Activity) (es : List Event) : (s.emit es).txn a = s.txn a := by cases a <;> rfl
@[simp] theorem State.txn_raise (a : Activity) (l : Label) : (s.raise l).txn a = s.txn a := by cases a <;> rfl
@[simp] theorem State.txbuf_emit (a : Activity) (es : List Event) : (s.emit es).txbuf a = s.txbuf a := by cases a <;> rfl
@[simp] theorem State.txbuf_raise (a : Activity) (l : Label) : (s.raise l).txbuf a = s.txbuf a := by cases a <;> rfl
@[simp] theorem State.emit_emit (es fs : List Event) : (s.emit es).emit fs = s.emit (es ++ fs) := by
  simp [State.emit, List.append_assoc]

/-- A result handed to a caller touches the trace alone. -/
theorem State.answer_eq (r : Except Label Value) :
    s.answer r = s.emit (match r with | .ok v => [.returned v, .label .ok] | .error l => [.label l]) := by
  cases r <;> rfl

@[simp] theorem Result.andThen_next (f : State → State) : Result.andThen (.next s) f = .next (f s) := rfl

/-- What follows a result only follows its next state. -/
theorem Result.andThen_eq_next {r : Result} {f : State → State} {t : State} (h : r.andThen f = .next t) :
    ∃ u, r = .next u ∧ t = f u := by
  cases r with
  | next u => exact ⟨u, rfl, by simpa [Result.andThen] using h.symm⟩
  | fault e => simp [Result.andThen] at h
  | refused e => simp [Result.andThen] at h

end Sys2Proof.Machine
end

