-- ==== Sys2Proof/Laws/Ops.lean ====
section
/-! SUPPORT. For each shared operation one lemma that says once everything it can do. -/

namespace Sys2Proof.Machine
open Sys2Proof

/-- ACQUIRE succeeds exactly on a free lock, and then only writes the lock. -/
theorem State.acquire_eq_some {s t : State} {a : Activity} :
    s.acquire a = some t ↔ s.lock = .free ∧ t = { s with lock := ownerOf a } := by
  unfold State.acquire
  split <;> simp_all [eq_comm]

/-- ACQUIRE waits exactly while the lock is held. -/
theorem State.acquire_eq_none {s : State} {a : Activity} : s.acquire a = none ↔ s.lock ≠ .free := by
  unfold State.acquire
  split <;> simp_all

/-- RELEASE answers a next state exactly for the owner, and then only frees the lock. -/
theorem State.release_eq_next {s t : State} {a : Activity} :
    s.release a = .next t ↔ s.lock = ownerOf a ∧ t = { s with lock := .free } := by
  unfold State.release
  split <;> simp_all [eq_comm]

/-- One step of a send transaction: it waits, or takes exactly one of its five steps. -/
theorem sendStep_eq_next {a : Activity} {s t : State} (h : sendStep a s = .next t) :
    (t = s ∧ (s.txn a = .idle ∨ s.txn a = .finish ∨ (s.txn a = .acquire ∧ s.lock ≠ .free))) ∨
    (s.txn a = .acquire ∧ s.lock = .free ∧
      t = ({ s with lock := ownerOf a }.setTxn a .leaveListen).raise .ok) ∨
    (s.txn a = .leaveListen ∧ t = ((s.setListen a false).setTxn a .transmit).raise .ok) ∨
    (s.txn a = .transmit ∧
      t = ((s.emit [.sendFragment a (s.txbuf a) s.port.ack]).setTxn a .restoreListen).raise (ackLabel s.port.ack)) ∨
    (s.txn a = .restoreListen ∧ t = ((s.setListen a true).setTxn a .release).raise .ok) ∨
    (s.txn a = .release ∧ s.lock = ownerOf a ∧ t = ({ s with lock := .free }.setTxn a .idle).raise .ok) := by
  unfold sendStep at h
  split at h
  next hp => exact .inl ⟨by simpa using h.symm, .inl hp⟩
  next hp =>
    split at h
    next u hu =>
      obtain ⟨hl, rfl⟩ := State.acquire_eq_some.mp hu
      exact .inr (.inl ⟨hp, hl, by simpa using h.symm⟩)
    next hu => exact .inl ⟨by simpa using h.symm, .inr (.inr ⟨hp, State.acquire_eq_none.mp hu⟩)⟩
  next hp => exact .inr (.inr (.inl ⟨hp, by simpa using h.symm⟩))
  next hp => exact .inr (.inr (.inr (.inl ⟨hp, by simpa using h.symm⟩)))
  next hp => exact .inr (.inr (.inr (.inr (.inl ⟨hp, by simpa using h.symm⟩))))
  next hp =>
    obtain ⟨u, hu, rfl⟩ := Result.andThen_eq_next h
    obtain ⟨hl, rfl⟩ := State.release_eq_next.mp hu
    exact .inr (.inr (.inr (.inr (.inr ⟨hp, hl, rfl⟩))))
  next hp => exact .inl ⟨by simpa using h.symm, .inr (.inl hp)⟩

/-- One step of a receive-check transaction: it waits, or takes exactly one of its steps. -/
theorem rxchkStep_eq_next {s t : State} (h : rxchkStep s = .next t) :
    (t = s ∧ s.rxPhase = .idle ∧ s.lock ≠ .free) ∨
    (s.rxPhase = .idle ∧ s.lock = .free ∧ t = { s with lock := .receiver, rxPhase := .query }.raise .ok) ∨
    (s.rxPhase = .query ∧
      t = ({ s with rxPhase := if s.port.available then .read else .release false }.emit
        [.isFragmentAvailable .receiver s.port.available]).raise .ok) ∨
    (s.rxPhase = .read ∧ t = { s.readFragment with rxPhase := .release true }.raise .ok) ∨
    (∃ got, s.rxPhase = .release got ∧ s.lock = .receiver ∧
      t = { s with lock := .free, rxPhase := .idle }.raise .ok) := by
  unfold rxchkStep at h
  split at h
  next hp =>
    split at h
    next u hu =>
      obtain ⟨hl, rfl⟩ := State.acquire_eq_some.mp hu
      exact .inr (.inl ⟨hp, hl, by simpa [ownerOf] using h.symm⟩)
    next hu => exact .inl ⟨by simpa using h.symm, hp, State.acquire_eq_none.mp hu⟩
  next hp => exact .inr (.inr (.inl ⟨hp, by simpa using h.symm⟩))
  next hp => exact .inr (.inr (.inr (.inl ⟨hp, by simpa using h.symm⟩)))
  next got hp =>
    obtain ⟨u, hu, rfl⟩ := Result.andThen_eq_next h
    obtain ⟨hl, rfl⟩ := State.release_eq_next.mp hu
    exact .inr (.inr (.inr (.inr ⟨got, hp, hl, rfl⟩)))

/-- ARRIVE drops an operand outside its domain, changing the trace alone, or stores. -/
theorem State.arrive_cases (s : State) (index : BitVec 7) (last : Bool) (body : Bytes) :
    (isSlotIndex index.toNat = false ∧ s.arrive index last body = s.raise .dropIndex) ∨
    (isSlotIndex index.toNat = true ∧ s.cfg.slotCap < body.length ∧ s.arrive index last body = s.raise .dropLength) ∨
    (isSlotIndex index.toNat = true ∧ body.length ≤ s.cfg.slotCap ∧
      s.arrive index last body = (s.arriveAt index.toNat last body).raise .ok) := by
  unfold State.arrive
  cases hi : isSlotIndex index.toNat
  · exact .inl ⟨rfl, by simp⟩
  · by_cases hb : s.cfg.slotCap < body.length
    · exact .inr (.inl ⟨rfl, hb, by simp [hb]⟩)
    · exact .inr (.inr ⟨rfl, by omega, by simp [hb]⟩)

/-- COMPLETE does nothing but label its step, or resets the engine, with telemetry exactly when CHK16 holds. -/
theorem State.complete_cases (s : State) :
    (s.sequenceFull = false ∧ s.complete = s.raise .ok) ∨
    (s.sequenceFull = true ∧ chk16 s.message = true ∧
      s.complete = s.resetbuf.emit [.telemetry (slice s.message 0 (s.message.length - 2)), .label .completeOk]) ∨
    (s.sequenceFull = true ∧ chk16 s.message = false ∧ s.complete = s.resetbuf.raise .dropCrc16) := by
  unfold State.complete
  cases hf : s.sequenceFull <;> cases hc : chk16 s.message <;> simp

/-- TICK does nothing but label its step, abandons, or decides a re-request. -/
theorem State.tick_cases (s : State) :
    (s.tickOutcome = .nop ∧ s.timedOut = false ∧ s.tick = s.raise .ok) ∨
    (s.tickOutcome = .abandon ∧ s.timedOut = true ∧ Config.maxRetry < (s.retry + 1).toNat ∧
      s.tick = s.resetbuf.raise .abandon) ∨
    (s.tickOutcome = .rereq ∧ s.timedOut = true ∧ (s.retry + 1).toNat ≤ Config.maxRetry ∧
      s.tick = s.decideRereq) := by
  unfold State.tick State.tickOutcome
  cases ht : s.timedOut
  · exact .inl ⟨rfl, rfl, rfl⟩
  · by_cases hr : Config.maxRetry < (s.retry + 1).toNat
    · refine .inr (.inl ?_)
      rw [Bool.not_true, if_neg Bool.false_ne_true, if_pos hr]
      exact ⟨rfl, rfl, hr, rfl⟩
    · refine .inr (.inr ?_)
      rw [Bool.not_true, if_neg Bool.false_ne_true, if_neg hr]
      exact ⟨rfl, rfl, Nat.not_lt.mp hr, rfl⟩

/-- The next lined-up input is taken, or a free one; nothing else changes but the step count. -/
theorem State.sample_cases (s : State) :
    (∃ x rest, s.inputs = x :: rest ∧ s.sample = { s with port := x, inputs := rest, cycle := s.cycle + 1 }) ∨
    (s.inputs = [] ∧ s.sample = { s with port := Config.freeInput s.cycle, cycle := s.cycle + 1 }) := by
  unfold State.sample
  split
  next x rest h => exact .inl ⟨x, rest, h, rfl⟩
  next h => exact .inr ⟨h, rfl⟩

/-- On the HOST's turn nothing runs, or its first request does. -/
theorem State.selectHost_cases (s : State) :
    (s.requests = [] ∧ s.selectHost = .quiet s) ∨
    (∃ r rest, s.requests = r :: rest ∧
      ((∃ e, decode r = .error e ∧ s.selectHost = .quiet ({ s with requests := rest }.raise (rejectLabel e))) ∨
       (∃ i, decode r = .ok i ∧ hostMay i = false ∧
          s.selectHost = .quiet ({ s with requests := rest }.raise .refuseBadOpcode)) ∨
       (∃ i, decode r = .ok i ∧ hostMay i = true ∧ s.hostReady i = true ∧
          s.selectHost = .run i { s with requests := rest }) ∨
       (∃ i, decode r = .ok i ∧ hostMay i = true ∧ s.hostReady i = false ∧ s.selectHost = .quiet s))) := by
  unfold State.selectHost
  split
  next h => exact .inl ⟨h, rfl⟩
  next r rest h =>
    refine .inr ⟨r, rest, h, ?_⟩
    split
    next e he => exact .inl ⟨e, he, rfl⟩
    next i hi =>
      cases hm : hostMay i
      · exact .inr (.inl ⟨i, hi, hm, by simp⟩)
      · cases hr : s.hostReady i
        · exact .inr (.inr (.inr ⟨i, hi, hm, hr, by simp⟩))
        · exact .inr (.inr (.inl ⟨i, hi, hm, hr, by simp⟩))

/-- The engine's per-slot reading of its state does not depend on the trace, the RECEIVER's step or the lock. -/
theorem State.slotBytes_congr {s t : State} (hl : t.slotLen = s.slotLen) (hd : t.slotData = s.slotData) (i : Nat) :
    t.slotBytes i = s.slotBytes i := by
  simp only [State.slotBytes, State.slotLength, hl, hd]

/-- Presence is a reading of the presence bits alone. -/
theorem State.isPresent_congr {s t : State} (h : t.present = s.present) (i : Nat) : t.isPresent i = s.isPresent i := by
  simp only [State.isPresent, h]

end Sys2Proof.Machine
end

