-- ==== Sys2Proof/Laws/PerInstr.lean ====
section
/-! SUPPORT. Families of statements made per operation: `FormatLength`, the length the format's layout gives the bytes of an
operation (spec 30_encoding.md R71 to R79); an operation without a bit pattern is requested by its name. -/

namespace Sys2Proof.Laws
open Sys2Proof Sys2Proof.Machine

/-- The lengths a format's layouts have. -/
def lengthOf : Format → Nat → Prop
  | .ctrl, n => n = 2 ∨ n = 6
  | .fid, n => n = 1
  | .frame, n => n = 11 ∨ 14 ≤ n
  | .ctrl2, n => n = 2
  | .ctrl6, n => n = 6
  | .ts13, n => n = 13
  | .req0, n => n = 0
  | .rxfrag, n => 11 ≤ n

/-- The bytes of an operation have a length its format lays out; a request by name names the operation itself. -/
def FormatLength.Statement (i : Instr) : Prop :=
  match encode i with
  | .word f b => lengthOf f b.length
  | .call j => j = i

/-- A control payload has 2 or 6 bytes. -/
theorem controlPayload_length (op : ControlOp) (d : Option Half) (m : Half) :
    (controlPayload op d m).length = 2 ∨ (controlPayload op d m).length = 6 := by
  cases d <;> simp [controlPayload, be16]

/-- A frame has 11 bytes, or 13 and its payload (R71). -/
theorem frameBytes_length (t : Byte) (d s : Word) (f : Byte) (p : Bytes) :
    (frameBytes t d s f p).length = if p = [] then 11 else 13 + p.length := by
  cases p <;> simp [frameBytes, sealCrc8, headerBytes, crc16Field, be32, be16]
  omega

theorem FormatLength.ctrlOn (data : Option Nat) (modifier : Nat) : FormatLength.Statement (.ctrlOn data modifier) := controlPayload_length _ _ _
theorem FormatLength.ctrlOff (data : Option Nat) (modifier : Nat) : FormatLength.Statement (.ctrlOff data modifier) := controlPayload_length _ _ _
theorem FormatLength.ctrlRestoreLastAction (data : Option Nat) (modifier : Nat) : FormatLength.Statement (.ctrlRestoreLastAction data modifier) := controlPayload_length _ _ _
theorem FormatLength.ctrlLock (data : Option Nat) (modifier : Nat) : FormatLength.Statement (.ctrlLock data modifier) := controlPayload_length _ _ _
theorem FormatLength.ctrlUnlock (data : Option Nat) (modifier : Nat) : FormatLength.Statement (.ctrlUnlock data modifier) := controlPayload_length _ _ _
theorem FormatLength.ctrlActivePowerLimit (data : Option Nat) (modifier : Nat) : FormatLength.Statement (.ctrlActivePowerLimit data modifier) := controlPayload_length _ _ _
theorem FormatLength.ctrlReactivePowerLimit (data : Option Nat) (modifier : Nat) : FormatLength.Statement (.ctrlReactivePowerLimit data modifier) := controlPayload_length _ _ _
theorem FormatLength.ctrlPowerFactor (data : Option Nat) (modifier : Nat) : FormatLength.Statement (.ctrlPowerFactor data modifier) := controlPayload_length _ _ _
theorem FormatLength.ctrlLockAndAlarm (data : Option Nat) (modifier : Nat) : FormatLength.Statement (.ctrlLockAndAlarm data modifier) := controlPayload_length _ _ _
theorem FormatLength.ctrlSelfInspect (data : Option Nat) (modifier : Nat) : FormatLength.Statement (.ctrlSelfInspect data modifier) := controlPayload_length _ _ _
theorem FormatLength.fid (last : Bool) (index : BitVec 7) : FormatLength.Statement (.fid last index) := rfl
theorem FormatLength.frame (type : Byte) (dst src : Word) (last : Bool) (index : BitVec 7) (payload : Bytes) : FormatLength.Statement (.frame type dst src last index payload) := by
  simp only [FormatLength.Statement, encode, lengthOf, frameBytes_length]
  cases payload <;> simp
  omega
theorem FormatLength.ctrl2 (op : ControlOp) : FormatLength.Statement (.ctrl2 op) := rfl
theorem FormatLength.ctrl6 (op : ControlOp) (data modifier : Half) : FormatLength.Statement (.ctrl6 op data modifier) := rfl
theorem FormatLength.ts13 (unixSeconds : Word) : FormatLength.Statement (.ts13 unixSeconds) := rfl
theorem FormatLength.req0 : FormatLength.Statement .req0 := rfl
theorem FormatLength.rxfrag (type : Byte) (dst src : Word) (last : Bool) (index : BitVec 7) (body : Bytes) (crc8 : Byte) : FormatLength.Statement (.rxfrag type dst src last index body crc8) := by
  simp [FormatLength.Statement, encode, lengthOf, fragmentBytes, headerBytes, be32]
theorem FormatLength.crc16 (bytes : Bytes) : FormatLength.Statement (.crc16 bytes) := rfl
theorem FormatLength.crc8 (bytes : Bytes) : FormatLength.Statement (.crc8 bytes) := rfl
theorem FormatLength.chk8 (raw : Bytes) : FormatLength.Statement (.chk8 raw) := rfl
theorem FormatLength.chk16 (message : Bytes) : FormatLength.Statement (.chk16 message) := rfl
theorem FormatLength.encode (type : Byte) (dst src : Word) (fid : Byte) (payload : Bytes) : FormatLength.Statement (.encode type dst src fid payload) := rfl
theorem FormatLength.decode (raw : Bytes) : FormatLength.Statement (.decode raw) := rfl
theorem FormatLength.buildControl (opcode : Nat) (data : Option Nat) (modifier : Nat) : FormatLength.Statement (.buildControl opcode data modifier) := rfl
theorem FormatLength.plimit (limitUnits : Nat) (relative persist : Bool) : FormatLength.Statement (.plimit limitUnits relative persist) := rfl
theorem FormatLength.tsync (unixSeconds : Word) : FormatLength.Statement (.tsync unixSeconds) := rfl
theorem FormatLength.req : FormatLength.Statement .req := rfl
theorem FormatLength.cmdframe (kind : CmdFrame) : FormatLength.Statement (.cmdframe kind) := rfl
theorem FormatLength.resetbuf : FormatLength.Statement .resetbuf := rfl
theorem FormatLength.arrive (index : BitVec 7) (last : Bool) (body : Bytes) : FormatLength.Statement (.arrive index last body) := rfl
theorem FormatLength.complete : FormatLength.Statement .complete := rfl
theorem FormatLength.tick : FormatLength.Statement .tick := rfl
theorem FormatLength.abandon : FormatLength.Statement .abandon := rfl
theorem FormatLength.rereqSend : FormatLength.Statement .rereqSend := rfl
theorem FormatLength.acquire (a : Activity) : FormatLength.Statement (.acquire a) := rfl
theorem FormatLength.release (a : Activity) : FormatLength.Statement (.release a) := rfl
theorem FormatLength.sendTxn (a : Activity) (frame : Bytes) : FormatLength.Statement (.sendTxn a frame) := rfl
theorem FormatLength.rxchkTxn : FormatLength.Statement .rxchkTxn := rfl
theorem FormatLength.startup : FormatLength.Statement .startup := rfl
theorem FormatLength.sync : FormatLength.Statement .sync := rfl
theorem FormatLength.poll : FormatLength.Statement .poll := rfl
theorem FormatLength.diag : FormatLength.Statement .diag := rfl

end Sys2Proof.Laws
end

