-- ==== Sys2Proof/Laws/Safety.lean ====
section
/-! SUPPORT. What taking an input does, once, in the terms of the statements. -/

namespace Sys2Proof.Machine
open Sys2Proof

/-- `TakesInput` is what the machine's step does first. -/
theorem State.takesInput_iff_sample {s t : State} : s.TakesInput t ↔ s.sample = t := by
  constructor
  · rintro (⟨x, rest, h, rfl⟩ | ⟨h, rfl⟩) <;> simp only [State.sample, h]
  · rintro rfl
    unfold State.sample
    split
    next x rest h => exact .inl ⟨x, rest, h, rfl⟩
    next h => exact .inr ⟨h, rfl⟩

/-- Taking an input changes nothing but what the environment presents and the step count. -/
theorem State.takesInput_frame {s t : State} (h : s.TakesInput t) :
    t = { s with port := t.port, inputs := t.inputs, cycle := t.cycle } := by
  rcases h with ⟨_, _, _, rfl⟩ | ⟨_, rfl⟩ <;> rfl

/-- A step is the run of what is selected once an input is taken. -/
theorem step_of_takesInput {s t : State} (h : s.TakesInput t) :
    step s = match t.select with
      | .run i u => exec i u
      | .quiet u => .next u := by
  rw [← State.takesInput_iff_sample.mp h]
  rfl

end Sys2Proof.Machine
end

