-- ==== Sys2Proof/Tests/Slice0.lean ====
section
/-! SUPPORT. Tests of one step each: well-formedness, decoding of words written out from 30_encoding.md, the vectors of
95_test_vectors.md, and one witness for every statement that has hypotheses. -/

namespace Sys2Proof.Tests
set_option Elab.async false
open Sys2Proof Sys2Proof.Machine

/-! ### Small states -/

/-- The example configuration of 41_frame_codec.md and of program P1. -/
def cfg : Params where
  localAddr := 0x80123456
  peerAddr := 0x72220143
  typeControl := 0x51
  typeTimesync := 0x15
  typeRerequest := 0x15
  startupLimitUnits := 25
  startupRelative := false
  startupPersist := false
  syncFirstDelayed := false
  maxFrameLen := 32

/-- An input of the environment: whose turn, and what `now` is. -/
def tickAt (turn : Turn) (now : Word) : Input :=
  { turn := turn, now := now, unixSeconds := 0x65432100, available := false, fragment := [], ack := false }

/-- The state after reset, with the example configuration. -/
def s0 : State := { State.reset with cfg := cfg, port := tickAt .sender 0 }

/-- The loops have begun. -/
def looping : State := { s0 with sstep := .sSleep }

/-- `s` at a given `now`. -/
def atNow (s : State) (now : Word) : State := { s with port := { s.port with now := now } }

/-- A collecting engine: slots with bodies, `expectedCount`, `retry`, `last_activity`. -/
def engine (slots : List (Nat × Bytes)) (expected : BitVec 5) (retry : BitVec 3) (last : Word) : State :=
  { slots.foldl (fun s p => s.storeSlot p.1 p.2) looping with
    expectedCount := expected, retry := retry, lastActivity := last }

/-- What a result holds, when it is a next state. -/
def got {α : Type} (f : State → α) (r : Result) : Option α :=
  match r with
  | .next t => some (f t)
  | .fault _ => none
  | .refused _ => none

/-- The indices present. -/
def slotsOf (s : State) : List Nat := (List.range' 1 15).filter s.isPresent

/-- present, expectedCount, retry, last_activity: the state as 95_test_vectors.md writes it. -/
def engineOf (s : State) : List Nat × BitVec 5 × BitVec 3 × Word :=
  (slotsOf s, s.expectedCount, s.retry, s.lastActivity)

/-- `n` equal bytes. -/
def rep (n : Nat) : Bytes := List.replicate n 0x11

/-- The fragments F1 and F3 of program P2. -/
def f1 : Bytes := [0x95, 0x80, 0x12, 0x34, 0x56, 0x72, 0x22, 0x01, 0x43, 0x01, 0x10, 0x11, 0x12, 0x13, 0x14, 0x15, 0x16,
  0x17, 0x76]
def f3 : Bytes := [0x95, 0x80, 0x12, 0x34, 0x56, 0x72, 0x22, 0x01, 0x43, 0x83, 0x20, 0x21, 0x22, 0x23, 0x50, 0x22, 0x86]

/-- The frame of V14 and P1, and that of V15 and V38. -/
def frame14 : Bytes := [0x51, 0x72, 0x22, 0x01, 0x43, 0x80, 0x12, 0x34, 0x56, 0x81, 0x00, 0x0B, 0x01, 0xF4, 0x00, 0x00,
  0xD4, 0xE5, 0xFD]
def frame15 : Bytes := [0x15, 0x72, 0x22, 0x01, 0x43, 0x80, 0x12, 0x34, 0x56, 0x02, 0xF5]

/-! ### Well-formedness refuses ill-formed operands -/

theorem test_wf_ctrl_data : (Instr.ctrlOn (some 65536) 0).wellFormed = false := by decide
theorem test_wf_ctrl_modifier : (Instr.ctrlOff (some 0) 65536).wellFormed = false := by decide
theorem test_wf_ctrl_bare_modifier : (Instr.ctrlLock none 1).wellFormed = false := by decide
theorem test_wf_ctrl_good : (Instr.ctrlPowerFactor (some 65535) 65535).wellFormed = true := by decide
theorem test_wf_build_opcode : (Instr.buildControl 5 none 0).wellFormed = false := by decide
theorem test_wf_build_data : (Instr.buildControl 11 (some 65536) 0).wellFormed = false := by decide
theorem test_wf_build_modifier : (Instr.buildControl 11 none 65536).wellFormed = false := by decide
theorem test_wf_plimit : (Instr.plimit 3277 false false).wellFormed = false := by decide
theorem test_wf_chk8 : (Instr.chk8 []).wellFormed = false := by decide
theorem test_wf_decode : (Instr.decode (rep 10)).wellFormed = false := by decide
theorem test_wf_cmdframe_control : (Instr.cmdframe (.control [0x00, 0x05])).wellFormed = false := by decide
theorem test_wf_cmdframe_timesync : (Instr.cmdframe (.timesync (rep 13))).wellFormed = false := by decide
theorem test_wf_cmdframe_rerequest :
    (Instr.cmdframe (.rerequest 0)).wellFormed = false ∧ (Instr.cmdframe (.rerequest 17)).wellFormed = false := by decide
theorem test_wf_arrive :
    (Instr.arrive 0 true []).wellFormed = false ∧ (Instr.arrive 16 true []).wellFormed = false := by decide
theorem test_wf_send : (Instr.sendTxn .sender (rep 10)).wellFormed = false := by decide

/-! ### Words written out from the encodings (30_encoding.md R70 to R85) -/

theorem test_decode_ctrl_bare :
    decode (.word .ctrl [0x00, 0x00]) = .ok (.ctrlOn none 0) ∧
    decode (.word .ctrl [0x00, 0x01]) = .ok (.ctrlOff none 0) ∧
    decode (.word .ctrl [0x00, 0x02]) = .ok (.ctrlRestoreLastAction none 0) ∧
    decode (.word .ctrl [0x00, 0x03]) = .ok (.ctrlLock none 0) ∧
    decode (.word .ctrl [0x00, 0x04]) = .ok (.ctrlUnlock none 0) ∧
    decode (.word .ctrl [0x00, 0x0B]) = .ok (.ctrlActivePowerLimit none 0) ∧
    decode (.word .ctrl [0x00, 0x0C]) = .ok (.ctrlReactivePowerLimit none 0) ∧
    decode (.word .ctrl [0x00, 0x0D]) = .ok (.ctrlPowerFactor none 0) ∧
    decode (.word .ctrl [0x00, 0x14]) = .ok (.ctrlLockAndAlarm none 0) ∧
    decode (.word .ctrl [0x00, 0x28]) = .ok (.ctrlSelfInspect none 0) := by decide

theorem test_decode_ctrl_data :
    decode (.word .ctrl [0x00, 0x0D, 0x12, 0x34, 0x00, 0x01]) = .ok (.ctrlPowerFactor (some 0x1234) 1) := by decide

theorem test_decode_fid : decode (.word .fid [0b10000011]) = .ok (.fid true 3) := by decide

theorem test_decode_ctrl2 : decode (.word .ctrl2 [0x00, 0x28]) = .ok (.ctrl2 .selfInspect) := by decide

theorem test_decode_ctrl6 :
    decode (.word .ctrl6 [0x00, 0x0B, 0x03, 0xE8, 0x01, 0x01]) = .ok (.ctrl6 .activePowerLimit 0x03E8 0x0101) := by
  decide

theorem test_decode_ts13 :
    decode (.word .ts13 [0x0B, 0x00, 0x65, 0x43, 0x21, 0x00, 0x00, 0x00, 0x00, 0x05, 0x00, 0x00, 0x00]) =
      .ok (.ts13 0x65432100) := by decide

theorem test_decode_req0 : decode (.word .req0 []) = .ok .req0 := by decide

/-- V14 and V15 read back. -/
theorem test_decode_frame :
    decode (.word .frame frame14) =
      .ok (.frame 0x51 0x72220143 0x80123456 true 1 [0x00, 0x0B, 0x01, 0xF4, 0x00, 0x00]) ∧
    decode (.word .frame frame15) = .ok (.frame 0x15 0x72220143 0x80123456 false 2 []) := by decide +kernel

/-- V21 as an inbound fragment. -/
theorem test_decode_rxfrag :
    decode (.word .rxfrag f3) =
      .ok (.rxfrag 0x95 0x80123456 0x72220143 true 3 [0x20, 0x21, 0x22, 0x23, 0x50, 0x22] 0x86) := by decide +kernel

theorem test_decode_rejects :
    decode (.word .ctrl [0x00, 0x05]) = .error .reservedOpcode ∧
    decode (.word .ctrl [0x00]) = .error .badLength ∧
    decode (.word .ts13 (rep 13)) = .error .badMarker ∧
    decode (.word .frame (frame15.take 10 ++ [0xF4])) = .error .badCrc8 ∧
    decode (.word .frame (sealCrc8 (rep 13))) = .error .badCrc16 := by decide +kernel

/-- A table word is the first thing a step runs after reset: CTRL.ACTIVE_POWER_LIMIT, bare (V27f). -/
theorem test_fetch_word :
    got State.trace (step (State.reset.withFetchWord 16 0x000B)) =
      some [.returned (.bytes [0x00, 0x0B]), .label .ok] := by decide

/-! ### Checksums (95_test_vectors.md 2.1) -/

theorem test_crc16 : crc16 [0x10, 0x11, 0x12, 0x13, 0x14, 0x15, 0x16, 0x17, 0x18, 0x19, 0x1A, 0x1B, 0x1C, 0x1D, 0x1E, 0x1F,
    0x20, 0x21, 0x22, 0x23] = 0x5022 := by decide +kernel
theorem test_crc8_V13h : crc8 (frame14.take 18) = 0xFD := by decide +kernel
theorem test_chk8_V13j : chk8 (frame15.take 10 ++ [0xF4]) = false := by decide +kernel
theorem test_chk8_V13k :
    chk8 [0x15, 0x72, 0x22, 0x41, 0x43, 0x80, 0x12, 0x74, 0x56, 0x02, 0xF5] = true := by decide +kernel
theorem test_chk16_V10 : chk16 [0x00, 0x0B, 0x01, 0xF5, 0x00, 0x00, 0xD4, 0xE5] = false := by decide +kernel
theorem test_chk16_V11 : chk16 [0x00, 0x0B, 0x01, 0xF4, 0x00, 0x00, 0xE5, 0xD4] = false := by decide +kernel

/-! ### Codec and payloads (95_test_vectors.md 2.2, 2.3) -/

theorem test_encode_V18 :
    frameBytes 0x51 0x72220143 0x80123456 0x81 [0xA5] =
      [0x51, 0x72, 0x22, 0x01, 0x43, 0x80, 0x12, 0x34, 0x56, 0x81, 0xA5, 0x3B, 0x7F, 0xD3] := by decide +kernel
theorem test_encode_V17 :
    frameBytes 0xFF 0xFFFFFFFF 0xFFFFFFFF 0xFF [] =
      [0xFF, 0xFF, 0xFF, 0xFF, 0xFF, 0xFF, 0xFF, 0xFF, 0xFF, 0xFF, 0x00] := by decide +kernel
theorem test_decode_V22 :
    decodeFragment [0x95, 0x80, 0x12, 0x34, 0x56, 0x72, 0x22, 0x01, 0x43, 0x0F, 0x78] =
      { type := 0x95, dst := 0x80123456, src := 0x72220143, last := false, index := 15, body := [], crc8 := 0x78 } := by
  decide
theorem test_validate_V25 :
    validate cfg 13 [0x95, 0x80, 0x12, 0x34, 0x56, 0x72, 0x22, 0x01, 0x43, 0x00, 0x01, 0x02, 0x74] =
      .error .dropIndex := by decide +kernel
theorem test_validate_V26 :
    validate cfg 13 [0x95, 0x80, 0x12, 0x34, 0x56, 0x72, 0x22, 0x01, 0x43, 0x90, 0x01, 0x02, 0xE4] =
      .error .dropIndex := by decide +kernel
theorem test_build_V28b : (buildControlOp .on (some 0) 0).toOption = some [0, 0, 0, 0, 0, 0] := by decide
theorem test_build_V28c : (buildControlOp .on none 0x0101).toOption = some [0, 0] := by decide
theorem test_plimit_V29d : (plimit 3276 true false).toOption = some [0x00, 0x0B, 0xFF, 0xF0, 0x00, 0x01] := by decide
theorem test_plimit_V29e : (plimit 100 false true).toOption = some [0x00, 0x0B, 0x07, 0xD0, 0x01, 0x00] := by decide
theorem test_tsync_V32 :
    tsync 0xFFFFFFFF = [0x0B, 0x00, 0xFF, 0xFF, 0xFF, 0xFF, 0, 0, 0, 0x05, 0, 0, 0] := by decide
theorem test_cmdframe_V37 :
    (commandFrame cfg (.timesync (tsync 0x65432100))).toOption =
      some [0x15, 0x72, 0x22, 0x01, 0x43, 0x80, 0x12, 0x34, 0x56, 0x81, 0x0B, 0x00, 0x65, 0x43, 0x21, 0x00, 0x00, 0x00,
        0x00, 0x05, 0x00, 0x00, 0x00, 0xEB, 0x90, 0x04] := by decide +kernel
theorem test_cmdframe_V38 :
    (commandFrame cfg (.rerequest 16)).toOption =
      some [0x15, 0x72, 0x22, 0x01, 0x43, 0x80, 0x12, 0x34, 0x56, 0x10, 0xE7] := by decide +kernel
theorem test_pipe_address : pipeAddress 0x72220143 = [0x01, 0x72, 0x22, 0x01, 0x43] := by decide

/-! ### Reassembly (95_test_vectors.md 2.4) -/

/-- R160's example. -/
theorem test_resetbuf :
    got engineOf (exec .resetbuf (engine [(1, [1]), (3, [2])] 3 2 7)) = some ([], 0, 0, 7) := by decide
theorem test_arrive_V39 : got engineOf (exec (.arrive 1 false [0xAA]) (atNow looping 7)) = some ([1], 2, 0, 7) := by decide
theorem test_arrive_V44 :
    got (fun t => (engineOf t, t.slotBytes 2))
      (exec (.arrive 2 false [0xCC]) (atNow (engine [(1, [0xAA]), (2, [0xBB, 0xBB])] 3 1 5) 9)) =
      some (([1, 2], 3, 1, 9), [0xCC]) := by decide
theorem test_complete_V40 :
    got (fun t => (engineOf t, t.trace))
      (exec .complete (engine [(1, [0x00, 0x0B, 0x01, 0xF4, 0x00, 0x00, 0xD4, 0xE5])] 1 0 0)) =
      some (([], 0, 0, 0), [.telemetry [0x00, 0x0B, 0x01, 0xF4, 0x00, 0x00], .label .completeOk]) := by decide +kernel
theorem test_complete_V41 :
    got (fun t => (engineOf t, t.trace)) (exec .complete (engine [(1, [])] 1 0 0)) =
      some (([], 0, 0, 0), [.label .dropCrc16]) := by decide +kernel
theorem test_tick_V49 :
    got (fun t => (t.retry, t.reqIndex, t.rstep)) (exec .tick (atNow (engine [(1, [1]), (2, [2]), (5, [5])] 5 2 0) 200)) =
      some (3, 3, .pRereq) := by decide
theorem test_tick_V54 :
    got (fun t => (t.retry, t.reqIndex)) (exec .tick (atNow (engine [(1, [1]), (3, [3])] 3 0 0xFFFFFFF0) 0x55)) =
      some (1, 2) := by decide
theorem test_abandon_V50 :
    got engineOf (exec .tick (atNow (engine [(1, [1]), (3, [3])] 3 5 530) 635)) = some ([], 0, 0, 530) := by decide
/-- R169's first step builds the frame of V53. -/
theorem test_rereq_V53 :
    got State.txbufR (exec .rereqSend { looping with rstep := .pRereq, reqIndex := 16 }) =
      some [0x15, 0x72, 0x22, 0x01, 0x43, 0x80, 0x12, 0x34, 0x56, 0x10, 0xE7] := by decide +kernel

/-! ### Arbiter and activities (95_test_vectors.md 2.5, program P1) -/

theorem test_acquire_V56 : got State.lock (exec (.acquire .receiver) s0) = some .receiver := by decide
theorem test_acquire_V57 :
    exec (.acquire .sender) { s0 with lock := .receiver } = .next { s0 with lock := .receiver } := rfl
theorem test_release_V58 : got State.lock (exec (.release .receiver) { s0 with lock := .receiver }) = some .free := by
  decide
theorem test_release_by_other : exec (.release .sender) { s0 with lock := .receiver } = .fault .releaseByNonOwner := rfl
/-- V59's transmit step with `ack` false. -/
theorem test_send_V59 :
    got (fun t => (t.lock, t.listen, t.trace))
      (exec (.sendTxn .sender frame14) { looping with txnS := .transmit, lock := .sender, listen := false, txbufS := frame14 }) =
      some (.sender, false, [.sendFragment .sender frame14 false, .label .sendUnacked]) := by decide
/-- V60's availability test. -/
theorem test_rxchk_V60 :
    got (fun t => (t.rxPhase, t.trace)) (exec .rxchkTxn { looping with rxPhase := .query, lock := .receiver }) =
      some (.release false, [.isFragmentAvailable .receiver false, .label .ok]) := by decide
/-- P1's frame. -/
theorem test_startup_P1 : got State.txbufS (exec .startup s0) = some frame14 := by decide +kernel
theorem test_sync_sleep :
    got State.sstep (exec .sync (atNow { looping with nextSync := 5000 } 4999)) = some .sSleep ∧
    got State.sstep (exec .sync (atNow { looping with nextSync := 5000 } 5000)) = some .sSync := by decide
/-- V23: a 10-byte fragment is dropped, with no change of the engine. -/
theorem test_poll_V23 :
    got (fun t => (engineOf t, t.rstep, t.trace))
      (exec .poll { engine [(1, [1]), (3, [3])] 3 2 5 with rstep := .pValidate, rxbuf := f1.take 10, rxlen := 10 }) =
      some (([1, 3], 3, 2, 5), .pRetry, [.label .dropLength]) := by decide
theorem test_diag : exec .diag s0 = .next { s0 with trace := [.label .ok] } := rfl

/-! ### Witnesses: for every statement with hypotheses, values that meet them, at the boundaries -/

theorem witness_Crc16ChangesOnSingleBitFlip : 0 < 8 ∧ 7 < 8 := by decide

/-- Of Chk16ComparesBigEndian and Chk16AcceptsAppendedCrc (whose bit number is as above). -/
theorem witness_Chk16 : ([] : Bytes).length < 2 ∧ [0xAB#8].length < 2 := by decide

/-- Of EncodeEmitsTheWireFrame, CommandFramesCarryTheConfiguration and FrameFormatRowsLayOutTheirBytes: 19 bytes are
encoded, 20 are refused (V19, V20). -/
theorem witness_EncodeEmitsTheWireFrame :
    (rep 19).length ≤ s0.cfg.maxFrameLen - 13 ∧ s0.cfg.maxFrameLen - 13 < (rep 20).length := by decide

/-- Of FrameFormatRowsLayOutTheirBytes, RXFRAG: a body of 21 bytes fits, one of 22 does not. -/
theorem witness_FrameFormatRows :
    (rep 21).length + 11 ≤ s0.cfg.maxFrameLen ∧ s0.cfg.maxFrameLen < (rep 22).length + 11 := by decide

/-- Of EncodedFrameLaws and DecodeOfEncodedFrame: a frame with a payload and one without. -/
theorem witness_EncodedFrameLaws :
    encodeFrame cfg 0x51 0x72220143 0x80123456 0x81 [0x00, 0x0B, 0x01, 0xF4, 0x00, 0x00] = .ok frame14 ∧
    encodeFrame cfg 0x15 0x72220143 0x80123456 0x02 [] = .ok frame15 := by decide +kernel

theorem witness_DecodeSplitsAtFixedOffsets :
    (11 ≤ frame15.length ∧ frame15.length ≤ s0.cfg.maxFrameLen) ∧
    (11 ≤ (rep 32).length ∧ (rep 32).length ≤ s0.cfg.maxFrameLen) := by decide

/-- Of ControlCommandsBuildTheirPayloads and of the first clause of BuildControlByNumber. -/
theorem witness_ControlCommands :
    (65535 < 2 ^ 16) ∧ (2 ^ 16 ≤ 65536) ∧ (∃ d, some 65536 = some d ∧ 2 ^ 16 ≤ d) :=
  ⟨by decide, by decide, 65536, rfl, by decide⟩

theorem witness_BuildControlByNumber :
    5 ∉ [0, 1, 2, 3, 4, 11, 12, 13, 20, 40] ∧ 65536 ∉ [0, 1, 2, 3, 4, 11, 12, 13, 20, 40] ∧
    (∀ d, some 65535 = some d → d < 2 ^ 16) ∧ 65535 < 2 ^ 16 :=
  ⟨by decide, by decide, fun d h => by cases h; decide, by decide⟩

theorem witness_PowerLimitPayload : 3276 ≤ 3276 ∧ 3276 < 3277 := by decide

theorem witness_OperandsOutsideTheirDomain :
    ((rep 10).length < 11 ∨ s0.cfg.maxFrameLen < (rep 10).length) ∧
    ((rep 33).length < 11 ∨ s0.cfg.maxFrameLen < (rep 33).length) ∧
    ((0 : BitVec 7) = 0 ∨ 15 < (0 : BitVec 7).toNat) ∧ ((16 : BitVec 7) = 0 ∨ 15 < (16 : BitVec 7).toNat) ∧
    (1 ≤ (15 : BitVec 7).toNat ∧ (15 : BitVec 7).toNat ≤ 15 ∧ s0.cfg.maxFrameLen - 11 < (rep 22).length) ∧
    s0.txn .sender = .idle ∧ s0.txn .receiver = .idle ∧ 5 ∉ [0, 1, 2, 3, 4, 11, 12, 13, 20, 40] := by decide

theorem witness_DecodeEncodeRoundTrip : (Instr.ctrlPowerFactor (some 0x1234) 1).wellFormed = true := by decide

theorem witness_EncodeOfDecodedBytes : decodeBytes .frame frame15 = .ok (.frame 0x15 0x72220143 0x80123456 false 2 []) := by
  decide +kernel

theorem witness_ReservedOpcodesRejected :
    (0x00#8).toNat * 256 + (0x05#8).toNat ∉ [0, 1, 2, 3, 4, 11, 12, 13, 20, 40] ∧
    (0x01#8).toNat * 256 + (0x00#8).toNat ∉ [0, 1, 2, 3, 4, 11, 12, 13, 20, 40] := by decide

/-- Of ArriveStoresAndUpdates: slot 1 and slot 15, with the longest body. -/
theorem witness_ArriveStoresAndUpdates :
    (1 ≤ (1 : BitVec 7).toNat ∧ (1 : BitVec 7).toNat ≤ 15) ∧ (1 ≤ (15 : BitVec 7).toNat ∧ (15 : BitVec 7).toNat ≤ 15) ∧
    (rep 21).length ≤ s0.cfg.maxFrameLen - 11 ∧ s0.slotData.wf := by decide

/-- Of CompleteAssemblesInIndexOrder: a full sequence of one, and three that are not: nothing expected, 16 expected, one missing. -/
theorem witness_CompleteAssembles :
    (let s := engine [(1, [0xFF, 0xFF])] 1 0 0
     (0 < s.expectedCount.toNat ∧ s.expectedCount.toNat ≤ 15) ∧ s.isPresent 1 = true ∧
       chk16 ((List.range' 1 s.expectedCount.toNat).map s.slotBytes).flatten = true) ∧
    (let s := engine [(1, [0xFF])] 1 0 0
     s.isPresent 1 = true ∧ chk16 ((List.range' 1 s.expectedCount.toNat).map s.slotBytes).flatten = false) ∧
    ¬ 0 < looping.expectedCount.toNat ∧ ¬ (engine [(15, [])] 16 0 0).expectedCount.toNat ≤ 15 ∧
    (engine [(3, [])] 3 0 0).isPresent 1 = false := by decide +kernel

/-- Of TickTimesOutRerequestsAbandons and AbandonClearsTheSequence: 100 ms do not time out, 101 do; a retry of 4 becomes 5 and asks, one of 5 becomes 6 and abandons; index 2 is the
lowest missing one, and index 16 counts as missing. -/
theorem witness_TickTimesOut :
    (let s := atNow (engine [(1, [1]), (3, [3])] 3 4 5) 105
     (s.port.now - s.lastActivity).toNat ≤ 100) ∧
    (let s := atNow (engine [(1, [1]), (3, [3])] 3 5 5) 106
     s.expectedCount ≠ 0 ∧ 100 < (s.port.now - s.lastActivity).toNat ∧ 5 < (s.retry + 1).toNat ∧ s.retry = 5) ∧
    (let s := atNow (engine [(1, [1]), (3, [3])] 3 4 5) 106
     s.expectedCount ≠ 0 ∧ 100 < (s.port.now - s.lastActivity).toNat ∧ (s.retry + 1).toNat ≤ 5 ∧
       2 ≤ s.expectedCount.toNat ∧ s.isPresent 2 = false ∧ ∀ j < 2, 1 ≤ j → j ≠ 16 ∧ s.isPresent j = true) ∧
    (let s := engine ((List.range' 1 15).map fun i => (i, [])) 16 0 75
     16 ≤ s.expectedCount.toNat ∧ ∀ j < 16, 1 ≤ j → j ≠ 16 ∧ s.isPresent j = true) := by decide +kernel

/-- Of RereqSendSteps and RereqSendRunsToItsStamp: places of a re-request (R169), at their step of the RECEIVER. -/
theorem witness_RereqSend :
    (let s := { looping with rstep := .pRereq, reqIndex := 2 }
     s.rstep = .pRereq ∧ s.txnR = .idle ∧ s.lock = .free) ∧
    (let s := { looping with rstep := .pRereq, txnR := .acquire, lock := .sender }
     s.rstep = .pRereq ∧ s.txnR = .acquire ∧ s.lock ≠ .free) ∧
    (let s := { looping with rstep := .pRereq, txnR := .leaveListen, lock := .receiver }
     s.rstep = .pRereq ∧ s.txnR = .leaveListen) ∧
    (let s := { looping with rstep := .pRereq, txnR := .transmit, lock := .receiver, listen := false }
     s.rstep = .pRereq ∧ s.txnR = .transmit) ∧
    (let s := { looping with rstep := .pRereq, txnR := .restoreListen, lock := .receiver, listen := false }
     s.rstep = .pRereq ∧ s.txnR = .restoreListen) ∧
    ({ looping with rstep := .pStamp } : State).rstep = .pStamp ∧
    (let s := { looping with rstep := .pRereq, txnR := .release, lock := .receiver }
     s.rstep = .pRereq ∧ s.txnR = .release ∧ s.lock = .receiver) ∧
    (let s := { looping with rstep := .pRereq, txnR := .release, lock := .sender }
     s.rstep = .pRereq ∧ s.txnR = .release ∧ s.lock ≠ .receiver) ∧
    looping.rstep ≠ .pRereq ∧ looping.rstep ≠ .pStamp := by decide

/-- Of OutOfOrderArrivalCompletes: three bodies as in program P2 in the order 3, 1, 2; one alone; fifteen. -/
theorem witness_OutOfOrderArrival :
    (let bodies : List Bytes := [(f1.drop 10).take 8, rep 8, (f3.drop 10).take 6]
     looping.expectedCount = 0 ∧ looping.slotData.wf ∧ 1 ≤ bodies.length ∧ bodies.length ≤ 15 ∧
       (∀ b ∈ bodies, b.length ≤ looping.cfg.maxFrameLen - 11) ∧ [3, 1, 2].Perm (List.range' 1 bodies.length)) ∧
    [1].Perm (List.range' 1 1) ∧ (List.range' 1 15).Perm (List.range' 1 15) := by decide

/-- Of AcquireTakesAFreeLock and ReleaseOnlyByTheOwner. -/
theorem witness_AcquireAndRelease :
    s0.lock = .free ∧ ({ s0 with lock := .sender } : State).lock ≠ .free ∧
    ({ s0 with lock := .sender } : State).lock ≠ .receiver := by decide

/-- Of SendTxnSteps and SendTxnMakesThreeCalls: the shortest and the longest frame, and places of the transaction. -/
theorem witness_SendTxn :
    looping.txn .sender = .idle ∧ looping.lock = .free ∧ 11 ≤ frame15.length ∧ frame15.length ≤ looping.cfg.maxFrameLen ∧
    11 ≤ (rep 32).length ∧ (rep 32).length ≤ looping.cfg.maxFrameLen ∧
    (let s := { looping with txnS := .acquire, lock := .receiver }
     s.txn .sender = .acquire ∧ s.lock ≠ .free) ∧
    ({ looping with txnS := .leaveListen, lock := .sender } : State).txn .sender = .leaveListen ∧
    ({ looping with txnS := .transmit, lock := .sender, listen := false } : State).txn .sender = .transmit ∧
    ({ looping with txnS := .restoreListen, lock := .sender, listen := false } : State).txn .sender = .restoreListen ∧
    ({ s0 with txnS := .finish } : State).txn .sender = .finish ∧
    ({ looping with txnR := .release } : State).txn .receiver = .release ∧
    ({ looping with txnR := .release, lock := .receiver } : State).lock = ownerOf .receiver ∧
    ({ looping with txnR := .release, lock := .sender } : State).lock ≠ ownerOf .receiver := by decide

/-- Of RxchkTxnSteps and RxchkTxnReadsAtMostOne. -/
theorem witness_RxchkTxn :
    looping.rxPhase = .idle ∧ looping.lock = .free ∧ looping.port.available = false ∧
    ({ looping with port := { looping.port with available := true } } : State).port.available = true ∧
    ({ looping with rxPhase := .query, lock := .receiver } : State).rxPhase = .query ∧
    ({ looping with rxPhase := .read, lock := .receiver } : State).rxPhase = .read ∧
    ({ looping with rxPhase := .release true, lock := .receiver } : State).rxPhase = .release true ∧
    ({ looping with lock := .sender } : State).lock ≠ .receiver := by decide

/-- Of StartupSteps and StartupSendsOnePowerLimit: the limits 3276 and 3277, and the shortest frame that holds the payload. -/
theorem witness_Startup :
    (let s := { s0 with cfg := { cfg with startupLimitUnits := 3276, maxFrameLen := 19 } }
     s.sstep = .sStartup ∧ s.txnS = .idle ∧ s.lock = .free ∧ s.cfg.startupLimitUnits ≤ 3276 ∧ 19 ≤ s.cfg.maxFrameLen) ∧
    (let s := { s0 with cfg := { cfg with startupLimitUnits := 3277 } }
     s.sstep = .sStartup ∧ s.txnS = .idle ∧ 3276 < s.cfg.startupLimitUnits) ∧
    (let s := { s0 with txnS := .release, lock := .sender }
     s.sstep = .sStartup ∧ s.txnS = .release ∧ s.lock = .sender) ∧
    (let s := { s0 with txnS := .release, lock := .receiver }
     s.sstep = .sStartup ∧ s.txnS = .release ∧ s.lock ≠ .sender) ∧
    (∀ p ∈ [SendPhase.acquire, .leaveListen, .transmit, .restoreListen],
      let s := { s0 with txnS := p }
      s.sstep = .sStartup ∧
        (s.txnS = .acquire ∨ s.txnS = .leaveListen ∨ s.txnS = .transmit ∨ s.txnS = .restoreListen)) ∧
    ({ s0 with txnS := .finish } : State).txnS = .finish ∧ looping.sstep ≠ .sStartup := by decide

/-- Of SyncSteps and SyncRoundSendsOneTimeSync; the sleep ends exactly when `now` has reached `next_sync`. -/
theorem witness_Sync :
    (let s := { looping with sstep := .sSync, cfg := { cfg with maxFrameLen := 26 } }
     s.sstep = .sSync ∧ s.txnS = .idle ∧ s.lock = .free ∧ 26 ≤ s.cfg.maxFrameLen) ∧
    (let s := atNow { looping with nextSync := 5000 } 5000
     s.sstep = .sSleep ∧ s.txnS = .idle ∧ (s.port.now - s.nextSync).toNat < 2 ^ 31) ∧
    (let s := atNow { looping with nextSync := 5000 } 4999
     s.sstep = .sSleep ∧ 2 ^ 31 ≤ (s.port.now - s.nextSync).toNat) ∧
    (let s := { looping with sstep := .sSync, txnS := .release, lock := .sender }
     s.sstep = .sSync ∧ s.txnS = .release ∧ s.lock = .sender) ∧
    (let s := { looping with sstep := .sSync, txnS := .release, lock := .free }
     s.sstep = .sSync ∧ s.txnS = .release ∧ s.lock ≠ .sender) ∧
    (∀ p ∈ [SendPhase.acquire, .leaveListen, .transmit, .restoreListen],
      let s := { looping with sstep := .sSync, txnS := p }
      s.sstep = .sSync ∧
        (s.txnS = .acquire ∨ s.txnS = .leaveListen ∨ s.txnS = .transmit ∨ s.txnS = .restoreListen)) ∧
    (let s := { looping with sstep := .sSleep, txnS := .transmit, lock := .sender }
     s.sstep = .sSleep ∧ s.txnS ≠ .idle) ∧
    ({ looping with sstep := .sDiag } : State).sstep = .sDiag ∧ s0.sstep = .sStartup := by decide

/-- Of PollStepsInOrder: states at the steps of POLL, and TICK with and without a re-request. -/
theorem witness_PollSteps :
    looping.sstep ≠ .sStartup ∧ looping.rstep = .pRxchk ∧
    (let s := { looping with rstep := .pRxchk, rxPhase := .release true, lock := .receiver }
     s.rxPhase = .release true ∧ s.lock = .receiver) ∧
    (let s := { looping with rstep := .pRxchk, rxPhase := .release false, lock := .free }
     s.rstep = .pRxchk ∧ s.rxPhase = .release false ∧ s.lock ≠ .receiver) ∧
    (let s := { looping with rstep := .pStore, rxbuf := f1, rxlen := 19 }
     s.rstep = .pStore ∧ got engineOf (exec (.arrive (decodeFragment s.rxbuf).index (decodeFragment s.rxbuf).last
       (decodeFragment s.rxbuf).body) s) = some ([1], 2, 0, 0)) ∧
    (let s := { engine [(1, [])] 2 0 0 with rstep := .pComplete }
     s.rstep = .pComplete ∧ got engineOf (exec .complete s) = some ([1], 2, 0, 0)) ∧
    got State.rstep (exec .tick (atNow { engine [(1, []), (3, [])] 3 0 5 with rstep := .pRetry } 106)) = some .pRereq ∧
    got State.rstep (exec .tick { looping with rstep := .pRetry }) = some .pRetry ∧
    (let s := atNow { looping with rstep := .pSleep, sleepArmed := true, wakeR := 5 } 5
     s.rstep = .pSleep ∧ s.sleepArmed = true ∧ (s.port.now - s.wakeR).toNat < 2 ^ 31) ∧
    (let s := atNow { looping with rstep := .pSleep, sleepArmed := true, wakeR := 5 } 4
     2 ^ 31 ≤ (s.port.now - s.wakeR).toNat) := by decide

/-- Of ValidationDropsInOrder: each of the four ends of the validation: V23's length, V24's CRC8, V26's index, F1; and the length bounds. -/
theorem witness_Validation :
    (10 < 11 ∨ looping.cfg.maxFrameLen < 10) ∧ (33 < 11 ∨ looping.cfg.maxFrameLen < 33) ∧
    (11 ≤ 13 ∧ 13 ≤ looping.cfg.maxFrameLen ∧ chk8 (frame15.take 10 ++ [0xF4]) = false) ∧
    (let raw : Bytes := [0x95, 0x80, 0x12, 0x34, 0x56, 0x72, 0x22, 0x01, 0x43, 0x90, 0x01, 0x02, 0xE4]
     chk8 raw = true ∧ ((raw.getD 9 0).toNat % 128 = 0 ∨ 15 < (raw.getD 9 0).toNat % 128)) ∧
    (let raw : Bytes := [0x95, 0x80, 0x12, 0x34, 0x56, 0x72, 0x22, 0x01, 0x43, 0x0F, 0x78]
     11 ≤ raw.length ∧ raw.length ≤ looping.cfg.maxFrameLen ∧ chk8 raw = true ∧ 1 ≤ (raw.getD 9 0).toNat % 128 ∧
       (raw.getD 9 0).toNat % 128 ≤ 15) := by decide +kernel

theorem witness_PollTick :
    (let s := { looping with port := { looping.port with available := true, fragment := f1 } }
     s.sstep ≠ .sStartup ∧ s.rstep = .pRxchk ∧ s.rxPhase = .idle ∧ s.lock = .free ∧ s.port.available = true ∧
       (validate s.cfg s.port.fragment.length s.port.fragment).toOption.isSome = true ∧
       (got State.rstep (execAll [.arrive (decodeFragment f1).index (decodeFragment f1).last (decodeFragment f1).body,
         .complete] s)).isSome = true) := by decide +kernel

theorem witness_PollWaitsForStartup : s0.sstep = .sStartup := by decide

/-- On the HOST's turn, with one request in the list. -/
def asked (s : State) (r : Request) : State := { s with inputs := [tickAt .host 0], requests := [r] }

/-- `asked` takes the HOST's turn. -/
theorem asked_takes (s : State) (r : Request) :
    (asked s r).TakesInput { asked s r with port := tickAt .host 0, inputs := [], cycle := s.cycle + 1 } :=
  .inl ⟨tickAt .host 0, [], rfl, rfl⟩

/-- Of StepRunsTheDecodedRequest: a word that runs, a frame that is taken and one that waits, an operation of an activity,
a reserved opcode, a word of no layout. -/
theorem witness_StepRunsTheDecodedRequest :
    (asked s0 (.word .ctrl [0x00, 0x01])).requests = [.word .ctrl [0x00, 0x01]] ∧
    (tickAt .host 0).turn = .host ∧ s0.requests = [] ∧
    decode (.word .ctrl [0x00, 0x01]) = .ok (.ctrlOff none 0) ∧ hostMay (.ctrlOff none 0) = true ∧
    hostMay (.sendTxn .sender frame14) = true ∧ (looping.sstep = .sSleep ∧ looping.txnS = .idle) ∧
    ¬(s0.sstep = .sSleep ∧ s0.txnS = .idle) ∧ hostMay .resetbuf = false ∧
    decode (.word .ctrl [0x00, 0x05]) = .error .reservedOpcode ∧ decode (.word .ctrl [0x00]) = .error .badLength := by
  decide

/-- The refusals of a HOST request change nothing but the list and the record. -/
theorem test_host_refused :
    got (fun t => (t.requests, t.trace)) (step (asked s0 (.word .ctrl [0x00, 0x05]))) =
      some ([], [.label .refuseBadOpcode]) ∧
    got (fun t => (t.requests, t.trace)) (step (asked s0 (.call .resetbuf))) = some ([], [.label .refuseBadOpcode]) ∧
    got (fun t => (t.requests, t.trace)) (step (asked s0 (.word .fid []))) = some ([], [.label .refuseBadOperand]) := by
  decide

/-- Of StepRunsTheSequencers and ActivitiesShareOnlyTheLock: a turn of each activity is taken, at each place of the
SENDER. -/
theorem witness_StepRunsTheSequencers :
    ({ looping with inputs := [tickAt .receiver 7] } : State).TakesInput
      { looping with port := tickAt .receiver 7, inputs := [], cycle := 1 } ∧
    (tickAt .sender 0).turn = .sender ∧ (tickAt .receiver 0).turn = .receiver ∧ s0.sstep = .sStartup ∧
    (looping.sstep = .sSleep ∧ looping.txnS = .idle) ∧
    ({ looping with txnS := .acquire } : State).txnS ≠ .idle ∧ looping.sstep ≠ .sStartup :=
  ⟨.inl ⟨_, _, rfl, rfl⟩, by decide, by decide, by decide, by decide, by decide, by decide⟩

/-! ### Witnesses of the machine statements -/

/-- A presence bit is set only at an index of 1 to 15. -/
theorem isPresent_range {s : State} {i : Nat} (h : s.isPresent i = true) : 1 ≤ i ∧ i ≤ 15 := by
  simp only [State.isPresent, isSlotIndex, Bool.and_eq_true, decide_eq_true_eq] at h
  exact h.1

/-- An invariant about one engine state with nothing between steps in either activity. -/
theorem idle_arbiter (s : State) (hl : s.lock = .free) (hm : s.listen = true) (hs : s.txnS = .idle) (hr : s.txnR = .idle)
    (hx : s.rxPhase = .idle) (h1 : s.sstep = .sStartup → s.rstep = .pRxchk ∧ s.expectedCount = 0) : s.ArbiterInv := by
  constructor <;> simp_all [SendPhase.holds, RxPhase.holds, SendPhase.outOfListen, SendPhase.loaded]

/-- The collecting state of V43, at its retry check, with the timeout passed. -/
def collecting : State :=
  { engine [(1, [0xAA])] 2 0 0 with rstep := .pRetry, inputs := [tickAt .receiver 101, tickAt .receiver 101] }

/-- The slots of an engine state at most one slot of which is present, with a body that fits. -/
theorem fits_of_check (s : State) (h : ∀ i < 16, s.isPresent i = true → s.slotLength i ≤ s.cfg.slotCap) (i : Nat)
    (hi : s.isPresent i = true) : s.slotLength i ≤ s.cfg.slotCap :=
  h i (by have := isPresent_range hi; omega) hi

theorem collecting_inv : collecting.Inv :=
  ⟨by decide, idle_arbiter _ rfl rfl rfl rfl rfl (by decide),
    ⟨by decide, by decide, by decide, fun _ => ⟨1, by decide⟩, by decide, by decide, fits_of_check _ (by decide),
      (fun h => by cases h), by decide, by decide⟩⟩

/-- Of StepKeepsTheMachineInvariant and StepNeverStops. -/
theorem witness_StepKeepsTheMachineInvariant :
    collecting.Inv ∧ (got State.rstep (step collecting)).isSome = true := ⟨collecting_inv, by decide⟩

/-- Of RetryCountsTheRerequests: both sides of the step are collecting: the retry counter goes from 0 to 1. -/
theorem witness_RetryCountsTheRerequests :
    collecting.Inv ∧ collecting.expectedCount ≠ 0 ∧
    got (fun t => (t.expectedCount, t.retry)) (step collecting) = some (2, 1) := ⟨collecting_inv, by decide, by decide⟩

/-- `collecting` with other values in registers that are dead there: no tick sleep, no re-request, nothing to send. -/
def collectingOther : State := { collecting with wakeR := 9, reqIndex := 3, txbufS := frame15, txbufR := frame14 }

theorem collectingOther_inv : collectingOther.Inv :=
  ⟨by decide, idle_arbiter _ rfl rfl rfl rfl rfl (by decide),
    ⟨by decide, by decide, by decide, fun _ => ⟨1, by decide⟩, by decide, by decide, fits_of_check _ (by decide),
      (fun h => by cases h), by decide, by decide⟩⟩

/-- Of UnspecifiedRegistersAreNeverRead. -/
theorem witness_UnspecifiedRegisters :
    collecting.Inv ∧ collectingOther.Inv ∧ collecting.LiveEq collectingOther ∧
    (got State.rstep (step collecting)).isSome = true := by
  refine ⟨collecting_inv, collectingOther_inv, ?_, by decide⟩
  constructor <;> first | rfl | decide | exact fun _ => rfl | exact fun _ _ _ => rfl


/-- Four turns of an activity with other turns between. -/
def mixed (a b : Turn) : List Input :=
  [tickAt a 0, tickAt b 0, tickAt a 0, tickAt .host 0, tickAt a 0, tickAt b 0, tickAt a 0]

/-- The SENDER inside its transaction, with four turns of its own to come. -/
def senderHolds : State :=
  { looping with
    lock := .sender, txnS := .leaveListen, txbufS := frame15, inputs := mixed .sender .receiver }

theorem senderHolds_inv : senderHolds.Inv :=
  ⟨by decide, ⟨by decide, by decide, by decide, by decide, by decide, by decide, by decide, by decide, by decide,
      by decide⟩,
    ⟨by decide, by decide, by decide, fun h => absurd rfl h, by decide, by decide, fits_of_check _ (by decide),
      (fun h => by cases h), by decide, by decide⟩⟩

/-- The RECEIVER inside its receive-check, with four turns of its own to come. -/
def receiverHolds : State :=
  { looping with lock := .receiver, rxPhase := .query, inputs := mixed .receiver .sender }

theorem receiverHolds_inv : receiverHolds.Inv :=
  ⟨by decide, ⟨by decide, by decide, by decide, by decide, by decide, by decide, by decide, by decide, by decide,
      by decide⟩,
    ⟨by decide, by decide, by decide, fun h => absurd rfl h, by decide, by decide, fits_of_check _ (by decide),
      (fun h => by cases h), by decide, by decide⟩⟩

/-- Of LockIsReleasedWithinFourSteps. -/
theorem witness_LockIsReleased :
    senderHolds.Inv ∧ senderHolds.lock = .sender ∧ senderHolds.inputs = mixed .sender .receiver ++ [] ∧
    4 ≤ (mixed .sender .receiver).countP (fun x => x.turn == .sender) ∧
    receiverHolds.Inv ∧ receiverHolds.lock = .receiver ∧ receiverHolds.inputs = mixed .receiver .sender ++ [] ∧
    4 ≤ (mixed .receiver .sender).countP (fun x => x.turn == .receiver) :=
  ⟨senderHolds_inv, by decide, by decide, by decide, receiverHolds_inv, by decide, by decide, by decide⟩

/-- Of ChannelCallsByTheLockOwner: a step that makes a channel call. -/
theorem witness_ChannelCalls :
    senderHolds.Inv ∧ got State.trace (step senderHolds) = some [.setListenMode .sender false, .label .ok] :=
  ⟨senderHolds_inv, by decide⟩

/-- Of TelemetryOnlyForCheckedMessages: a step that emits telemetry (V42: a message of two bytes). -/
theorem witness_Telemetry :
    got State.trace (step { engine [(1, [0xFF, 0xFF])] 1 0 0 with rstep := .pComplete, inputs := [tickAt .receiver 0] }) =
      some [.telemetry [], .label .completeOk] := by decide +kernel

theorem witness_ConfigurationIsNeverWritten : got State.cfg (exec .resetbuf s0) = some s0.cfg := by decide

end Sys2Proof.Tests
end

section
/-! PROOF. R33, R255: no operation writes the configuration. An operation's result "keeps the configuration" when its next
state, if it has one, holds that of the state before; the two transactions, the reassembly engine and the two activities'
sequences keep it one after the other, and the dispatch puts them together. -/

namespace Sys2Proof.Machine
open Sys2Proof

/-- A result whose next state, if there is one, has the configuration of `s`. -/
def Result.KeepsCfg (s : State) (r : Result) : Prop := ∀ t, r = .next t → t.cfg = s.cfg

/-! ### The rules of `KeepsCfg` -/

theorem Result.KeepsCfg.next {s t : State} (h : t.cfg = s.cfg) : Result.KeepsCfg s (.next t) := by
  rintro u ⟨⟩
  exact h

theorem Result.KeepsCfg.andThen {s : State} {r : Result} {f : State → State} (hr : r.KeepsCfg s)
    (hf : ∀ u, (f u).cfg = u.cfg) : (r.andThen f).KeepsCfg s := by
  intro t h
  obtain ⟨u, hu, rfl⟩ := Result.andThen_eq_next h
  exact (hf u).trans (hr u hu)

/-! ### The state's operations -/

@[simp] theorem State.answer_cfg (s : State) (r : Except Label Value) : (s.answer r).cfg = s.cfg := by
  rw [State.answer_eq, State.emit_cfg]

@[simp] theorem State.abandon_cfg (s : State) : s.abandon.cfg = s.cfg := rfl

@[simp] theorem State.beginSequence_cfg (s : State) : s.beginSequence.cfg = s.cfg := by
  unfold State.beginSequence
  split
  · exact s.resetbuf_cfg
  · rfl

@[simp] theorem State.arriveAt_cfg (s : State) (index : Nat) (last : Bool) (body : Bytes) :
    (s.arriveAt index last body).cfg = s.cfg :=
  s.beginSequence_cfg

@[simp] theorem State.arrive_cfg (s : State) (index : BitVec 7) (last : Bool) (body : Bytes) :
    (s.arrive index last body).cfg = s.cfg := by
  obtain ⟨-, h⟩ | ⟨-, -, h⟩ | ⟨-, -, h⟩ := s.arrive_cases index last body <;> simp [h]

@[simp] theorem State.complete_cfg (s : State) : s.complete.cfg = s.cfg := by
  obtain ⟨-, h⟩ | ⟨-, -, h⟩ | ⟨-, -, h⟩ := s.complete_cases <;> simp [h]

@[simp] theorem State.tick_cfg (s : State) : s.tick.cfg = s.cfg := by
  obtain ⟨-, -, h⟩ | ⟨-, -, -, h⟩ | ⟨-, -, -, h⟩ := s.tick_cases <;> simp [h]

/-! ### The lock and the two transactions -/

theorem State.release_keepsCfg (s : State) (a : Activity) : (s.release a).KeepsCfg s := by
  intro t h
  obtain ⟨-, rfl⟩ := State.release_eq_next.mp h
  rfl

theorem execAcquire_keepsCfg (a : Activity) (s : State) : (execAcquire a s).KeepsCfg s := by
  unfold execAcquire
  split
  next t ht =>
    obtain ⟨-, rfl⟩ := State.acquire_eq_some.mp ht
    exact .next rfl
  next => exact .next rfl

theorem sendStep_keepsCfg (a : Activity) (s : State) : (sendStep a s).KeepsCfg s := by
  intro t h
  obtain ⟨rfl, -⟩ | ⟨-, -, rfl⟩ | ⟨-, rfl⟩ | ⟨-, rfl⟩ | ⟨-, rfl⟩ | ⟨-, -, rfl⟩ := sendStep_eq_next h <;> simp

theorem rxchkStep_keepsCfg (s : State) : (rxchkStep s).KeepsCfg s := by
  intro t h
  obtain ⟨rfl, -⟩ | ⟨-, -, rfl⟩ | ⟨-, rfl⟩ | ⟨-, rfl⟩ | ⟨-, -, -, rfl⟩ := rxchkStep_eq_next h <;> simp

theorem execSendTxn_keepsCfg (a : Activity) (frame : Bytes) (s : State) : (execSendTxn a frame s).KeepsCfg s := by
  unfold execSendTxn
  cases s.txn a with
  | idle => dsimp only; split <;> exact .next (by simp)
  | finish => exact .next rfl
  | _ => exact sendStep_keepsCfg a s

theorem execRxchkTxn_keepsCfg (s : State) : (execRxchkTxn s).KeepsCfg s := by
  unfold execRxchkTxn
  cases s.rxPhase with
  | release got => exact (rxchkStep_keepsCfg s).andThen fun _ => rfl
  | _ => exact rxchkStep_keepsCfg s

/-! ### The sequences of the two activities -/

theorem rereqStep_keepsCfg (s : State) : (rereqStep s).KeepsCfg s := by
  unfold rereqStep
  cases s.rstep with
  | pRereq =>
    cases s.txnR with
    | idle => cases s.rereqFrame <;> exact .next (by simp)
    | release => exact (sendStep_keepsCfg .receiver s).andThen fun _ => rfl
    | finish => exact .next rfl
    | _ => exact sendStep_keepsCfg .receiver s
  | _ => exact .next rfl

theorem execStartup_keepsCfg (s : State) : (execStartup s).KeepsCfg s := by
  unfold execStartup
  cases s.sstep with
  | sStartup =>
    cases s.txnS with
    | idle => cases startupFrame s.cfg <;> exact .next (by simp)
    | release => exact (sendStep_keepsCfg .sender s).andThen fun _ => rfl
    | finish => exact .next rfl
    | _ => exact sendStep_keepsCfg .sender s
  | _ => exact .next rfl

theorem execSync_keepsCfg (s : State) : (execSync s).KeepsCfg s := by
  unfold execSync
  cases s.sstep with
  | sStartup => exact .next rfl
  | sSync =>
    cases s.txnS with
    | idle => cases commandFrame s.cfg (.timesync (tsync s.port.unixSeconds)) <;> exact .next (by simp)
    | release => exact (sendStep_keepsCfg .sender s).andThen fun _ => rfl
    | finish => exact .next rfl
    | _ => exact sendStep_keepsCfg .sender s
  | sDiag => exact .next rfl
  | sSleep => dsimp only; split <;> exact .next rfl

theorem execPoll_keepsCfg (s : State) : (execPoll s).KeepsCfg s := by
  unfold execPoll
  split
  next => exact .next rfl
  next =>
    cases s.rstep with
    | pRxchk =>
      cases s.rxPhase with
      | release got => exact (rxchkStep_keepsCfg s).andThen fun _ => rfl
      | _ => exact rxchkStep_keepsCfg s
    | pValidate => cases validate s.cfg s.rxlen s.rxbuf <;> exact .next (by simp)
    | pStore => exact .next (s.arrive_cfg _ _ _)
    | pComplete => exact .next s.complete_cfg
    | pRetry => cases s.tickOutcome <;> exact .next s.tick_cfg
    | pRereq => exact rereqStep_keepsCfg s
    | pStamp => exact rereqStep_keepsCfg s
    | pSleep =>
      dsimp only
      split
      next => split <;> exact .next rfl
      next => exact .next rfl

/-! ### The dispatch -/

/-- The operations without a line of their own are pure: they hand a result to their caller. -/
theorem exec_keepsCfg (i : Instr) (s : State) : Result.KeepsCfg s (exec i s) := by
  cases i
  case resetbuf => exact .next rfl
  case arrive => exact .next (s.arrive_cfg _ _ _)
  case complete => exact .next s.complete_cfg
  case tick => exact .next s.tick_cfg
  case abandon => exact .next s.abandon_cfg
  case rereqSend => exact rereqStep_keepsCfg s
  case acquire a => exact execAcquire_keepsCfg a s
  case release a => exact (s.release_keepsCfg a).andThen fun _ => rfl
  case sendTxn a frame => exact execSendTxn_keepsCfg a frame s
  case rxchkTxn => exact execRxchkTxn_keepsCfg s
  case startup => exact execStartup_keepsCfg s
  case sync => exact execSync_keepsCfg s
  case poll => exact execPoll_keepsCfg s
  case diag => exact .next rfl
  all_goals exact .next (s.answer_cfg _)

/-- Settles O60: every arm of the dispatch keeps the configuration. -/
theorem configurationIsNeverWritten : Obligations.ConfigurationIsNeverWritten :=
  exec_keepsCfg

end Sys2Proof.Machine
end

section
/-! PROOF. R62, R195 to R197, R199: which operation a turn runs. -/

namespace Sys2Proof.Machine
open Sys2Proof

/-! ### What each turn runs -/

/-- Taking an input moves no sequencer, so the SENDER is at the operation it was at. -/
theorem State.TakesInput.senderOp_eq {s t : State} (h : s.TakesInput t) : t.senderOp = s.senderOp := by
  rw [State.takesInput_frame h]
  rfl

theorem step_of_sender_turn {s t : State} (h : s.TakesInput t) (hturn : t.port.turn = .sender) :
    step s = exec s.senderOp t := by
  rw [step_of_takesInput h, State.select, hturn, ← h.senderOp_eq]

theorem step_of_receiver_turn {s t : State} (h : s.TakesInput t) (hturn : t.port.turn = .receiver) :
    step s = exec .poll t := by
  rw [step_of_takesInput h, State.select, hturn]

/-- Settles O49: the turn picks the activity, and its sequencer the operation. -/
theorem stepRunsTheSequencers : Obligations.StepRunsTheSequencers := by
  intro s t h
  refine ⟨step_of_receiver_turn h, fun hturn hs => ?_, fun hturn hs => ?_, fun hturn hs hp => ?_⟩ <;>
    rw [step_of_sender_turn h hturn]
  · simp only [State.senderOp, hs]
  · obtain hs | hs | ⟨hs, hp⟩ := hs
    · simp only [State.senderOp, hs]
    · simp only [State.senderOp, hs]
    · simp only [State.senderOp, hs, hp, if_true]
  · simp only [State.senderOp, hs, hp, if_false]

end Sys2Proof.Machine
end

section
/-! PROOF. R62, R200 (e): the two activities share the lock and nothing else. A change of the state that an activity's
operations do not notice commutes with each of them; replacing the other activity's own state is one. -/

namespace Sys2Proof.Machine
open Sys2Proof

/-! ### What a replacement leaves to be read -/

section
variable (s r : State)

@[simp] theorem State.withReceiverOf_sstep : (s.withReceiverOf r).sstep = s.sstep := rfl
@[simp] theorem State.withReceiverOf_txnS : (s.withReceiverOf r).txnS = s.txnS := rfl
@[simp] theorem State.withReceiverOf_cfg : (s.withReceiverOf r).cfg = s.cfg := rfl
@[simp] theorem State.withReceiverOf_port : (s.withReceiverOf r).port = s.port := rfl

@[simp] theorem State.withSenderOf_sstep : (s.withSenderOf r).sstep = r.sstep := rfl
@[simp] theorem State.withSenderOf_rstep : (s.withSenderOf r).rstep = s.rstep := rfl
@[simp] theorem State.withSenderOf_txnR : (s.withSenderOf r).txnR = s.txnR := rfl
@[simp] theorem State.withSenderOf_rxPhase : (s.withSenderOf r).rxPhase = s.rxPhase := rfl
@[simp] theorem State.withSenderOf_cfg : (s.withSenderOf r).cfg = s.cfg := rfl
@[simp] theorem State.withSenderOf_rxlen : (s.withSenderOf r).rxlen = s.rxlen := rfl
@[simp] theorem State.withSenderOf_rxbuf : (s.withSenderOf r).rxbuf = s.rxbuf := rfl
@[simp] theorem State.withSenderOf_rereqFrame : (s.withSenderOf r).rereqFrame = s.rereqFrame := rfl
@[simp] theorem State.withSenderOf_tickOutcome : (s.withSenderOf r).tickOutcome = s.tickOutcome := rfl

end

/-! ### The transactions -/

/-- `g` changes nothing that `a`'s transactions read, and none of their writes touches what `g` changes. -/
structure Unnoticed (a : Activity) (g : State → State) : Prop where
  txn : ∀ s, (g s).txn a = s.txn a
  txbuf : ∀ s, (g s).txbuf a = s.txbuf a
  lock : ∀ s, (g s).lock = s.lock
  port : ∀ s, (g s).port = s.port
  setTxn : ∀ s p, (g s).setTxn a p = g (s.setTxn a p)
  setTxbuf : ∀ s f, (g s).setTxbuf a f = g (s.setTxbuf a f)
  setLock : ∀ s l, { g s with lock := l } = g { s with lock := l }
  setListen : ∀ s b, (g s).setListen a b = g (s.setListen a b)
  emit : ∀ s es, (g s).emit es = g (s.emit es)

theorem unnoticed_withReceiverOf (r : State) : Unnoticed .sender (·.withReceiverOf r) := by
  constructor <;> intros <;> rfl

theorem unnoticed_withSenderOf (r : State) : Unnoticed .receiver (·.withSenderOf r) := by
  constructor <;> intros <;> rfl

/-- What commutes with `g` still does when followed by what commutes with `g`. -/
theorem Result.andThen_comm {r r' : Result} {f g : State → State} (hr : r' = r.andThen g)
    (hf : ∀ u, f (g u) = g (f u)) : r'.andThen f = (r.andThen f).andThen g := by
  subst hr
  cases r with
  | next u => exact congrArg Host.Outcome.next (hf u)
  | fault e => rfl
  | refused e => rfl

theorem Result.andThen_ite (c : Prop) [Decidable c] (r r' : Result) (f : State → State) :
    (if c then r else r').andThen f = if c then r.andThen f else r'.andThen f :=
  apply_ite (fun x : Result => x.andThen f) c r r'

theorem State.acquire_of_free {s : State} {a : Activity} (h : s.lock = .free) :
    s.acquire a = some { s with lock := ownerOf a } := if_pos h

theorem State.acquire_of_held {s : State} {a : Activity} (h : s.lock ≠ .free) : s.acquire a = none := if_neg h

theorem State.release_of_owner {s : State} {a : Activity} (h : s.lock = ownerOf a) :
    s.release a = .next { s with lock := .free } := if_pos h

theorem State.release_of_not_owner {s : State} {a : Activity} (h : s.lock ≠ ownerOf a) :
    s.release a = .fault .releaseByNonOwner := if_neg h

section
variable {a : Activity} {g : State → State}

theorem Unnoticed.raise (hg : Unnoticed a g) (s : State) (l : Label) : (g s).raise l = g (s.raise l) :=
  hg.emit s [.label l]

theorem Unnoticed.acquire (hg : Unnoticed a g) (s : State) : (g s).acquire a = (s.acquire a).map g := by
  by_cases h : s.lock = .free
  · rw [State.acquire_of_free h, State.acquire_of_free ((hg.lock s).trans h), hg.setLock, Option.map_some]
  · rw [State.acquire_of_held h, State.acquire_of_held (hg.lock s ▸ h), Option.map_none]

theorem Unnoticed.release (hg : Unnoticed a g) (s : State) : (g s).release a = (s.release a).andThen g := by
  by_cases h : s.lock = ownerOf a
  · rw [State.release_of_owner h, State.release_of_owner ((hg.lock s).trans h), hg.setLock, Result.andThen_next]
  · rw [State.release_of_not_owner h, State.release_of_not_owner (hg.lock s ▸ h)]
    rfl

/-- R193: each of the five steps of a send transaction reads and writes only its activity's own state and the lock. -/
theorem Unnoticed.sendStep (hg : Unnoticed a g) (s : State) :
    sendStep a (g s) = (sendStep a s).andThen g := by
  unfold Machine.sendStep
  rw [hg.txn]
  cases s.txn a with
  | idle => rfl
  | finish => rfl
  | acquire =>
    dsimp only
    rw [hg.acquire]
    cases s.acquire a with
    | none => rfl
    | some t => simp only [Option.map_some, Result.andThen_next, hg.setTxn, hg.raise]
  | leaveListen => simp only [Result.andThen_next, hg.setListen, hg.setTxn, hg.raise]
  | transmit => simp only [Result.andThen_next, hg.txbuf, hg.port, hg.emit, hg.setTxn, hg.raise]
  | restoreListen => simp only [Result.andThen_next, hg.setListen, hg.setTxn, hg.raise]
  | release => exact Result.andThen_comm (hg.release s) fun u => by rw [hg.setTxn, hg.raise]

end

/-! ### The SENDER's operations, and the RECEIVER's own state -/

section
variable (s r : State)

theorem sendStep_sender_withReceiverOf :
    sendStep .sender (s.withReceiverOf r) = (sendStep .sender s).andThen (·.withReceiverOf r) :=
  (unnoticed_withReceiverOf r).sendStep s

theorem execSendTxn_sender_withReceiverOf (f : Bytes) :
    execSendTxn .sender f (s.withReceiverOf r) = (execSendTxn .sender f s).andThen (·.withReceiverOf r) := by
  unfold execSendTxn
  rw [(unnoticed_withReceiverOf r).txn]
  cases s.txn .sender with
  | idle =>
    dsimp only
    rw [Result.andThen_ite]
    rfl
  | finish => rfl
  | _ => exact sendStep_sender_withReceiverOf s r

theorem execStartup_withReceiverOf :
    execStartup (s.withReceiverOf r) = (execStartup s).andThen (·.withReceiverOf r) := by
  unfold execStartup
  rw [s.withReceiverOf_sstep, s.withReceiverOf_txnS, s.withReceiverOf_cfg]
  cases s.sstep with
  | sStartup =>
    cases s.txnS with
    | idle => cases startupFrame s.cfg <;> rfl
    | release => exact Result.andThen_comm (sendStep_sender_withReceiverOf s r) fun _ => rfl
    | finish => rfl
    | _ => exact sendStep_sender_withReceiverOf s r
  | _ => rfl

theorem execSync_withReceiverOf :
    execSync (s.withReceiverOf r) = (execSync s).andThen (·.withReceiverOf r) := by
  unfold execSync
  rw [s.withReceiverOf_sstep, s.withReceiverOf_txnS, s.withReceiverOf_cfg, s.withReceiverOf_port]
  cases s.sstep with
  | sSync =>
    cases s.txnS with
    | idle => cases commandFrame s.cfg (.timesync (tsync s.port.unixSeconds)) <;> rfl
    | release => exact Result.andThen_comm (sendStep_sender_withReceiverOf s r) fun _ => rfl
    | finish => rfl
    | _ => exact sendStep_sender_withReceiverOf s r
  | sSleep =>
    dsimp only
    rw [Result.andThen_ite]
    rfl
  | _ => rfl

/-- R62: whatever the SENDER is at, its operation neither reads nor writes the RECEIVER's own state. -/
theorem exec_senderOp_withReceiverOf (q : State) :
    exec s.senderOp (q.withReceiverOf r) = Result.andThen (exec s.senderOp q) (·.withReceiverOf r) := by
  unfold State.senderOp
  cases s.sstep with
  | sStartup => exact execStartup_withReceiverOf q r
  | sSync => exact execSync_withReceiverOf q r
  | sDiag => exact execSync_withReceiverOf q r
  | sSleep =>
    dsimp only
    split
    · exact execSync_withReceiverOf q r
    · exact execSendTxn_sender_withReceiverOf q r s.txbufS

/-! ### The RECEIVER's operations, and the SENDER's own state -/

theorem rxchkStep_withSenderOf :
    rxchkStep (s.withSenderOf r) = (rxchkStep s).andThen (·.withSenderOf r) := by
  unfold rxchkStep
  rw [s.withSenderOf_rxPhase]
  cases s.rxPhase with
  | idle =>
    dsimp only
    rw [(unnoticed_withSenderOf r).acquire]
    cases s.acquire .receiver <;> rfl
  | release got => exact Result.andThen_comm ((unnoticed_withSenderOf r).release s) fun _ => rfl
  | _ => rfl

theorem rereqStep_withSenderOf :
    rereqStep (s.withSenderOf r) = (rereqStep s).andThen (·.withSenderOf r) := by
  have hsend : sendStep .receiver (s.withSenderOf r) = (sendStep .receiver s).andThen (·.withSenderOf r) :=
    (unnoticed_withSenderOf r).sendStep s
  unfold rereqStep
  rw [s.withSenderOf_rstep, s.withSenderOf_txnR, s.withSenderOf_rereqFrame]
  cases s.rstep with
  | pRereq =>
    cases s.txnR with
    | idle => cases s.rereqFrame <;> rfl
    | release => exact Result.andThen_comm hsend fun _ => rfl
    | finish => rfl
    | _ => exact hsend
  | _ => rfl

theorem State.arrive_withSenderOf (index : BitVec 7) (last : Bool) (body : Bytes) :
    (s.withSenderOf r).arrive index last body = (s.arrive index last body).withSenderOf r := by
  have hbegin : (s.withSenderOf r).beginSequence = s.beginSequence.withSenderOf r := by
    unfold State.beginSequence
    rw [apply_ite (State.withSenderOf · r)]
    rfl
  have hat : (s.withSenderOf r).arriveAt index.toNat last body = (s.arriveAt index.toNat last body).withSenderOf r := by
    unfold State.arriveAt
    rw [hbegin]
    rfl
  unfold State.arrive
  rw [hat, apply_ite (State.withSenderOf · r), apply_ite (State.withSenderOf · r)]
  rfl

theorem State.complete_withSenderOf : (s.withSenderOf r).complete = s.complete.withSenderOf r := by
  unfold State.complete
  rw [apply_ite (State.withSenderOf · r), apply_ite (State.withSenderOf · r)]
  rfl

theorem State.tick_withSenderOf : (s.withSenderOf r).tick = s.tick.withSenderOf r := by
  unfold State.tick
  rw [s.withSenderOf_tickOutcome]
  cases s.tickOutcome <;> rfl

/-- R62, R197: past `S_STARTUP` POLL neither reads nor writes the SENDER's own state. -/
theorem execPoll_withSenderOf (hs : s.sstep ≠ .sStartup) (hr : r.sstep ≠ .sStartup) :
    execPoll (s.withSenderOf r) = (execPoll s).andThen (·.withSenderOf r) := by
  unfold execPoll
  rw [if_neg hs, s.withSenderOf_sstep, if_neg hr, s.withSenderOf_rstep]
  cases s.rstep with
  | pRxchk =>
    dsimp only
    rw [s.withSenderOf_rxPhase]
    cases s.rxPhase with
    | release got => exact Result.andThen_comm (rxchkStep_withSenderOf s r) fun _ => rfl
    | _ => exact rxchkStep_withSenderOf s r
  | pValidate =>
    dsimp only
    rw [s.withSenderOf_cfg, s.withSenderOf_rxlen, s.withSenderOf_rxbuf]
    cases validate s.cfg s.rxlen s.rxbuf <;> rfl
  | pStore =>
    dsimp only
    rw [s.arrive_withSenderOf r]
    rfl
  | pComplete =>
    dsimp only
    rw [s.complete_withSenderOf r]
    rfl
  | pRetry =>
    dsimp only
    rw [s.tick_withSenderOf r, s.withSenderOf_tickOutcome]
    cases s.tickOutcome <;> rfl
  | pRereq => exact rereqStep_withSenderOf s r
  | pStamp => exact rereqStep_withSenderOf s r
  | pSleep =>
    dsimp only
    rw [Result.andThen_ite, Result.andThen_ite]
    rfl

/-! ### Taking an input -/

variable {s} {t : State}

theorem State.TakesInput.withReceiverOf (h : s.TakesInput t) : (s.withReceiverOf r).TakesInput (t.withReceiverOf r) := by
  obtain ⟨x, rest, hi, rfl⟩ | ⟨hi, rfl⟩ := h
  · exact .inl ⟨x, rest, hi, rfl⟩
  · exact .inr ⟨hi, rfl⟩

theorem State.TakesInput.withSenderOf (h : s.TakesInput t) : (s.withSenderOf r).TakesInput (t.withSenderOf r) := by
  obtain ⟨x, rest, hi, rfl⟩ | ⟨hi, rfl⟩ := h
  · exact .inl ⟨x, rest, hi, rfl⟩
  · exact .inr ⟨hi, rfl⟩

theorem State.TakesInput.sstep_eq (h : s.TakesInput t) : t.sstep = s.sstep := by
  rw [State.takesInput_frame h]

end

/-- Settles O55: each activity's operation commutes with replacing the other's own state. -/
theorem activitiesShareOnlyTheLock : Obligations.ActivitiesShareOnlyTheLock := by
  intro s t r h
  constructor
  · intro hturn
    rw [step_of_sender_turn (h.withReceiverOf r) hturn, step_of_sender_turn h hturn]
    exact exec_senderOp_withReceiverOf s r t
  · intro hturn hs hr
    rw [step_of_receiver_turn (h.withSenderOf r) hturn, step_of_receiver_turn h hturn]
    exact execPoll_withSenderOf t r (h.sstep_eq ▸ hs) hr

end Sys2Proof.Machine
end
section
/-! PROOF. R57, R65, R200: what one step may do to the lock, to the places in the transactions and to the record. Where
every place that needs the lock has it (`State.Owned`), each operation answers a next state, makes channel calls only for the
owner, lets nobody in while the lock is held, and changes the lock only by freeing it (`State.ArbiterStep`). An operation
outside the transactions makes no channel call and leaves the lock alone (`State.QuietStep`). -/

namespace Sys2Proof.Machine
open Sys2Proof

/-- Whoever is at a place of a transaction that needs the lock owns it: what of `State.ArbiterInv` a single step needs. -/
structure State.Owned (s : State) : Prop where
  send : ∀ a, (s.txn a).holds = true → s.lock = ownerOf a
  rxchk : s.rxPhase.holds = true → s.lock = .receiver

/-- `t` comes after `s` by what is no step of the arbiter: the lock stays, nobody enters, no channel call is made. -/
structure State.QuietStep (s t : State) : Prop where
  inputs : t.inputs = s.inputs
  started : s.sstep ≠ .sStartup → t.sstep ≠ .sStartup
  lock : t.lock = s.lock
  send : ∀ a, (t.txn a).holds = true → (s.txn a).holds = true
  rxchk : t.rxPhase.holds = true → s.rxPhase.holds = true
  calls : ∃ new, t.trace = s.trace ++ new ∧ ∀ e ∈ new, e.caller = none

/-- `t` comes after `s` by a step the arbiter allows: a held lock stays or is freed, nobody enters while it is held, and
the channel calls are its owner's. -/
structure State.ArbiterStep (s t : State) : Prop where
  inputs : t.inputs = s.inputs
  started : s.sstep ≠ .sStartup → t.sstep ≠ .sStartup
  lock : s.lock ≠ .free → t.lock = s.lock ∨ t.lock = .free
  send : s.lock ≠ .free → ∀ a, (t.txn a).holds = true → (s.txn a).holds = true
  rxchk : s.lock ≠ .free → t.rxPhase.holds = true → s.rxPhase.holds = true
  calls : ∃ new, t.trace = s.trace ++ new ∧ ∀ e ∈ new, ∀ a, e.caller = some a → s.lock = ownerOf a

theorem State.ArbiterInv.owned {s : State} (h : s.ArbiterInv) : s.Owned where
  send := by
    rintro (_ | _) hp
    · exact h.sender_owns.mpr hp
    · exact h.receiver_owns.mpr (by rw [show s.txnR.holds = true from hp, Bool.true_or])
  rxchk hp := h.receiver_owns.mpr (by rw [hp, Bool.or_true])

/-- Who owns what does not depend on what the environment presents. -/
theorem State.Owned.takesInput {s t : State} (h : s.Owned) (ht : s.TakesInput t) : t.Owned := by
  rw [State.takesInput_frame ht]
  exact ⟨h.send, h.rxchk⟩

/-! ### Putting steps together -/

section
variable {s t u : State}

theorem State.QuietStep.trans (h : s.QuietStep t) (k : t.QuietStep u) : s.QuietStep u where
  inputs := k.inputs.trans h.inputs
  started := k.started ∘ h.started
  lock := k.lock.trans h.lock
  send a := h.send a ∘ k.send a
  rxchk := h.rxchk ∘ k.rxchk
  calls := by
    obtain ⟨new, ht, hnew⟩ := h.calls
    obtain ⟨more, hu, hmore⟩ := k.calls
    refine ⟨new ++ more, by rw [hu, ht, List.append_assoc], fun e he => ?_⟩
    exact (List.mem_append.mp he).elim (hnew e) (hmore e)

theorem State.QuietStep.arbiterStep (h : s.QuietStep t) : s.ArbiterStep t where
  inputs := h.inputs
  started := h.started
  lock _ := .inl h.lock
  send _ := h.send
  rxchk _ := h.rxchk
  calls := by
    obtain ⟨new, ht, hnew⟩ := h.calls
    exact ⟨new, ht, fun e he a ha => by simp [hnew e he] at ha⟩

theorem State.ArbiterStep.trans_quiet (h : s.ArbiterStep t) (k : t.QuietStep u) : s.ArbiterStep u where
  inputs := k.inputs.trans h.inputs
  started := k.started ∘ h.started
  lock hl := by rw [k.lock]; exact h.lock hl
  send hl a := h.send hl a ∘ k.send a
  rxchk hl := h.rxchk hl ∘ k.rxchk
  calls := by
    obtain ⟨new, ht, hnew⟩ := h.calls
    obtain ⟨more, hu, hmore⟩ := k.calls
    refine ⟨new ++ more, by rw [hu, ht, List.append_assoc], fun e he a ha => ?_⟩
    obtain he | he := List.mem_append.mp he
    · exact hnew e he a ha
    · simp [hmore e he] at ha

/-- While the lock stays held, whoever needs it still has it. -/
theorem State.ArbiterStep.owned (h : s.ArbiterStep t) (ho : s.Owned) (hs : s.lock ≠ .free) (ht : t.lock = s.lock) :
    t.Owned where
  send a hp := ht.trans (ho.send a (h.send hs a hp))
  rxchk hp := ht.trans (ho.rxchk (h.rxchk hs hp))

end

/-! ### Quiet steps -/

section
variable {s t : State}

/-- Writing none of the registers the arbiter's rules speak of is quiet. -/
theorem State.QuietStep.of_eq (hi : t.inputs = s.inputs) (hs : t.sstep = s.sstep) (hl : t.lock = s.lock)
    (hp : ∀ a, t.txn a = s.txn a) (hx : t.rxPhase = s.rxPhase) (ht : t.trace = s.trace) : s.QuietStep t where
  inputs := hi
  started := hs ▸ id
  lock := hl
  send a := hp a ▸ id
  rxchk := hx ▸ id
  calls := ⟨[], by simp [ht], by simp⟩

theorem State.QuietStep.refl (s : State) : s.QuietStep s := .of_eq rfl rfl rfl (fun _ => rfl) rfl rfl

theorem State.emit_quiet (s : State) {es : List Event} (h : ∀ e ∈ es, e.caller = none) : s.QuietStep (s.emit es) where
  inputs := rfl
  started := id
  lock := rfl
  send a := by rw [State.txn_emit]; exact id
  rxchk := id
  calls := ⟨es, rfl, h⟩

theorem State.raise_quiet (s : State) (l : Label) : s.QuietStep (s.raise l) := s.emit_quiet (by simp [Event.caller])

theorem State.QuietStep.raise (h : s.QuietStep t) (l : Label) : s.QuietStep (t.raise l) := h.trans (t.raise_quiet l)

theorem State.ArbiterStep.raise (h : s.ArbiterStep t) (l : Label) : s.ArbiterStep (t.raise l) :=
  h.trans_quiet (t.raise_quiet l)

theorem State.answer_quiet (s : State) (r : Except Label Value) : s.QuietStep (s.answer r) := by
  rw [State.answer_eq]
  cases r <;> exact s.emit_quiet (by simp [Event.caller])

theorem State.resumeAt_quiet (s : State) (r : RStep) : s.QuietStep (s.resumeAt r) :=
  .of_eq rfl rfl rfl (fun _ => rfl) rfl rfl

theorem State.setTxbuf_quiet (s : State) (a : Activity) (f : Bytes) : s.QuietStep (s.setTxbuf a f) := by
  cases a <;> exact .of_eq rfl rfl rfl (fun _ => rfl) rfl rfl

/-- Moving inside a transaction, or to a place that does not need the lock, is quiet. -/
theorem State.setTxn_quiet (s : State) {a : Activity} {p : SendPhase} (h : p.holds = true → (s.txn a).holds = true) :
    s.QuietStep (s.setTxn a p) where
  inputs := State.setTxn_inputs ..
  started := by rw [State.setTxn_sstep]; exact id
  lock := State.setTxn_lock ..
  send b := by
    cases a with
    | sender =>
      cases b with
      | sender => exact h
      | receiver => exact id
    | receiver =>
      cases b with
      | sender => exact id
      | receiver => exact h
  rxchk := by rw [State.setTxn_rxPhase]; exact id
  calls := ⟨[], by simp, by simp⟩

@[simp] theorem State.txn_setListen (s : State) (a b : Activity) (on : Bool) : (s.setListen a on).txn b = s.txn b := by
  cases b <;> rfl

/-- Moving inside a receive-check, or out of it, is quiet. -/
theorem State.setRxPhase_quiet (s : State) {p : RxPhase} (h : p.holds = true → s.rxPhase.holds = true) :
    s.QuietStep { s with rxPhase := p } where
  inputs := rfl
  started := id
  lock := rfl
  send _ := id
  rxchk := h
  calls := ⟨[], by simp, by simp⟩

/-- The SENDER moves on, never back to `S_STARTUP` (R24). -/
theorem State.setSstep_quiet (s : State) {x : SStep} (hx : x ≠ .sStartup) : s.QuietStep { s with sstep := x } where
  inputs := rfl
  started _ := hx
  lock := rfl
  send _ := id
  rxchk := id
  calls := ⟨[], by simp, by simp⟩

theorem State.setNextSync_quiet (s : State) (w : Word) : s.QuietStep { s with nextSync := w } :=
  .of_eq rfl rfl rfl (fun _ => rfl) rfl rfl

/-! ### Quiet operations: the reassembly engine -/

theorem State.resetbuf_quiet (s : State) : s.QuietStep s.resetbuf := .of_eq rfl rfl rfl (fun _ => rfl) rfl rfl

theorem State.beginSequence_quiet (s : State) : s.QuietStep s.beginSequence := by
  unfold State.beginSequence
  split
  · exact s.resetbuf_quiet
  · exact .refl s

theorem State.arrive_quiet (s : State) (index : BitVec 7) (last : Bool) (body : Bytes) :
    s.QuietStep (s.arrive index last body) := by
  obtain ⟨-, h⟩ | ⟨-, -, h⟩ | ⟨-, -, h⟩ := s.arrive_cases index last body <;> rw [h]
  · exact s.raise_quiet _
  · exact s.raise_quiet _
  · have hstore : s.beginSequence.QuietStep (s.arriveAt index.toNat last body) :=
      .of_eq rfl rfl rfl (fun _ => rfl) rfl rfl
    exact (s.beginSequence_quiet.trans hstore).raise _

theorem State.complete_quiet (s : State) : s.QuietStep s.complete := by
  obtain ⟨-, h⟩ | ⟨-, -, h⟩ | ⟨-, -, h⟩ := s.complete_cases <;> rw [h]
  · exact s.raise_quiet _
  · exact s.resetbuf_quiet.trans (State.emit_quiet _ (by simp [Event.caller]))
  · exact s.resetbuf_quiet.raise _

theorem State.tick_quiet (s : State) : s.QuietStep s.tick := by
  obtain ⟨-, -, h⟩ | ⟨-, -, -, h⟩ | ⟨-, -, -, h⟩ := s.tick_cases <;> rw [h]
  · exact s.raise_quiet _
  · exact s.resetbuf_quiet.raise _
  · have hretry : s.QuietStep { s with retry := s.retry + 1, reqIndex := s.chosenIndex, rstep := .pRereq } :=
      .of_eq rfl rfl rfl (fun _ => rfl) rfl rfl
    exact hretry.raise _

end

/-! ### Steps of the arbiter -/

section
variable {s t : State}

/-- With the lock free anybody may take it. -/
theorem State.ArbiterStep.of_free (hfree : s.lock = .free) (hi : t.inputs = s.inputs) (hs : t.sstep = s.sstep)
    (ht : t.trace = s.trace) : s.ArbiterStep t where
  inputs := hi
  started := hs ▸ id
  lock h := absurd hfree h
  send h := absurd hfree h
  rxchk h := absurd hfree h
  calls := ⟨[], by simp [ht], by simp⟩

/-- A channel call by the owner of the lock. -/
theorem State.emit_arbiterStep {a : Activity} {e : Event} (hl : s.lock = ownerOf a) (he : e.caller = some a) :
    s.ArbiterStep (s.emit [e]) where
  inputs := rfl
  started := id
  lock _ := .inl rfl
  send _ b := by rw [State.txn_emit]; exact id
  rxchk _ := id
  calls := by
    refine ⟨[e], rfl, fun x hx b hb => ?_⟩
    rw [List.mem_singleton.mp hx, he] at hb
    rw [hl, Option.some.inj hb]

theorem State.setListen_arbiterStep {a : Activity} (hl : s.lock = ownerOf a) (b : Bool) :
    s.ArbiterStep (s.setListen a b) := by
  obtain ⟨hi, hs, hlock, hp, hx, hc⟩ := s.emit_arbiterStep hl (e := .setListenMode a b) rfl
  exact ⟨hi, hs, hlock, hp, hx, hc⟩

theorem State.readFragment_arbiterStep (hl : s.lock = .receiver) : s.ArbiterStep s.readFragment := by
  obtain ⟨hi, hs, hlock, hp, hx, hc⟩ :=
    s.emit_arbiterStep (a := .receiver) hl (e := .readFragment .receiver s.port.fragment) rfl
  exact ⟨hi, hs, hlock, hp, hx, hc⟩

theorem State.free_arbiterStep (s : State) : s.ArbiterStep { s with lock := .free } where
  inputs := rfl
  started := id
  lock _ := .inr rfl
  send _ _ := id
  rxchk _ := id
  calls := ⟨[], by simp, by simp⟩

end

/-- The operation answers a next state, by a step the arbiter allows. -/
def Result.Allowed (s : State) (r : Result) : Prop := ∃ t, r = .next t ∧ s.ArbiterStep t

section
variable {s : State}

theorem State.ArbiterStep.allowed {t : State} (h : s.ArbiterStep t) : Result.Allowed s (.next t) := ⟨t, rfl, h⟩

theorem State.QuietStep.allowed {t : State} (h : s.QuietStep t) : Result.Allowed s (.next t) := h.arbiterStep.allowed

theorem Result.Allowed.andThen {r : Result} {f : State → State} (h : r.Allowed s) (hf : ∀ u : State, u.QuietStep (f u)) :
    (r.andThen f).Allowed s := by
  obtain ⟨t, rfl, ht⟩ := h
  exact (ht.trans_quiet (hf t)).allowed

/-! ### The two transactions -/

theorem State.release_allowed {a : Activity} (hl : s.lock = ownerOf a) : (s.release a).Allowed s := by
  rw [State.release_of_owner hl]
  exact s.free_arbiterStep.allowed

theorem sendStep_allowed (h : s.Owned) (a : Activity) : (sendStep a s).Allowed s := by
  have hown := h.send a
  unfold sendStep
  cases hp : s.txn a with
  | idle => exact (State.QuietStep.refl s).allowed
  | finish => exact (State.QuietStep.refl s).allowed
  | acquire =>
    by_cases hl : s.lock = .free
    · rw [State.acquire_of_free hl]
      exact (State.ArbiterStep.of_free hl (by simp) (by simp) (by simp) |>.raise _).allowed
    · rw [State.acquire_of_held hl]
      exact (State.QuietStep.refl s).allowed
  | leaveListen =>
    exact (((State.setListen_arbiterStep (hown (by rw [hp]; rfl)) false).trans_quiet
      (State.setTxn_quiet _ fun _ => by rw [State.txn_setListen, hp]; rfl)).raise _).allowed
  | transmit =>
    exact (((State.emit_arbiterStep (hown (by rw [hp]; rfl)) rfl).trans_quiet
      (State.setTxn_quiet _ fun _ => by rw [State.txn_emit, hp]; rfl)).raise _).allowed
  | restoreListen =>
    exact (((State.setListen_arbiterStep (hown (by rw [hp]; rfl)) true).trans_quiet
      (State.setTxn_quiet _ fun _ => by rw [State.txn_setListen, hp]; rfl)).raise _).allowed
  | release =>
    exact (State.release_allowed (hown (by rw [hp]; rfl))).andThen fun u => (u.setTxn_quiet (by nofun)).raise _

theorem rxchkStep_allowed (h : s.Owned) : (rxchkStep s).Allowed s := by
  unfold rxchkStep
  split
  next =>
    by_cases hl : s.lock = .free
    · rw [State.acquire_of_free hl]
      exact ((State.ArbiterStep.of_free hl (by rfl) (by rfl) (by rfl)).raise _).allowed
    · rw [State.acquire_of_held hl]
      exact (State.QuietStep.refl s).allowed
  next hx =>
    have hholds : s.rxPhase.holds = true := by rw [hx]; rfl
    exact (((State.emit_arbiterStep (a := .receiver) (h.rxchk hholds) rfl).trans_quiet
      (State.setRxPhase_quiet _ fun _ => hholds)).raise _).allowed
  next hx =>
    have hholds : s.rxPhase.holds = true := by rw [hx]; rfl
    exact (((State.readFragment_arbiterStep (h.rxchk hholds)).trans_quiet
      (State.setRxPhase_quiet _ fun _ => hholds)).raise _).allowed
  next hx =>
    have hholds : s.rxPhase.holds = true := by rw [hx]; rfl
    exact (State.release_allowed (h.rxchk hholds)).andThen fun u => (u.setRxPhase_quiet (by nofun)).raise _

/-! ### The sequences of the two activities -/

theorem execSendTxn_allowed (h : s.Owned) (a : Activity) (f : Bytes) : (execSendTxn a f s).Allowed s := by
  unfold execSendTxn
  cases s.txn a with
  | idle =>
    dsimp only
    split
    · exact (((s.setTxbuf_quiet a f).trans (State.setTxn_quiet _ (by nofun))).raise _).allowed
    · exact (s.raise_quiet _).allowed
  | finish => exact (State.QuietStep.refl s).allowed
  | _ => exact sendStep_allowed h a

theorem execStartup_allowed (h : s.Owned) : (execStartup s).Allowed s := by
  unfold execStartup
  split
  next =>
    split
    next =>
      split
      next f _ => exact (((s.setTxbuf_quiet .sender f).trans (State.setTxn_quiet _ (by nofun))).raise _).allowed
      next l _ => exact ((s.setTxn_quiet (by nofun)).raise l).allowed
    next => exact sendStep_allowed h .sender
    next => exact sendStep_allowed h .sender
    next => exact sendStep_allowed h .sender
    next => exact sendStep_allowed h .sender
    next => exact (sendStep_allowed h .sender).andThen fun u => u.setTxn_quiet (by nofun)
    next =>
      have hnext : (if 0 < s.cfg.syncFirstDelayMs.toNat then SStep.sSleep else .sSync) ≠ .sStartup := by
        split <;> nofun
      exact ((((s.setNextSync_quiet _).trans (State.setSstep_quiet _ hnext)).trans
        (State.setTxn_quiet (a := .sender) (p := .idle) _ (by nofun))).raise _).allowed
  next => exact (State.QuietStep.refl s).allowed
  next => exact (State.QuietStep.refl s).allowed
  next => exact (State.QuietStep.refl s).allowed

theorem execSync_allowed (h : s.Owned) : (execSync s).Allowed s := by
  unfold execSync
  split
  next => exact (State.QuietStep.refl s).allowed
  next =>
    split
    next =>
      split
      next f _ => exact (((s.setTxbuf_quiet .sender f).trans (State.setTxn_quiet _ (by nofun))).raise _).allowed
      next l _ => exact ((s.setSstep_quiet (by nofun)).raise l).allowed
    next => exact sendStep_allowed h .sender
    next => exact sendStep_allowed h .sender
    next => exact sendStep_allowed h .sender
    next => exact sendStep_allowed h .sender
    next => exact (sendStep_allowed h .sender).andThen fun u => u.setSstep_quiet (by nofun)
    next => exact (State.QuietStep.refl s).allowed
  next =>
    have hdiag : s.QuietStep { s.diag with nextSync := s.now + Config.syncIntervalMs, sstep := .sSleep } :=
      (s.setNextSync_quiet (s.now + Config.syncIntervalMs)).trans (State.setSstep_quiet _ (by nofun))
    exact (hdiag.raise _).allowed
  next =>
    split
    · exact ((s.setSstep_quiet (by nofun)).raise _).allowed
    · exact (State.QuietStep.refl s).allowed

theorem rereqStep_allowed (h : s.Owned) : (rereqStep s).Allowed s := by
  unfold rereqStep
  split
  next =>
    split
    next =>
      split
      next f _ => exact (((s.setTxbuf_quiet .receiver f).trans (State.setTxn_quiet _ (by nofun))).raise _).allowed
      next l _ => exact ((s.raise_quiet l).trans (State.resumeAt_quiet _ _)).allowed
    next => exact (sendStep_allowed h .receiver).andThen fun u => u.resumeAt_quiet _
    next => exact sendStep_allowed h .receiver
    next => exact sendStep_allowed h .receiver
    next => exact sendStep_allowed h .receiver
    next => exact sendStep_allowed h .receiver
    next => exact (State.QuietStep.refl s).allowed
  next =>
    have hstamp : s.QuietStep { s with lastActivity := s.now, sleepArmed := false } :=
      .of_eq rfl rfl rfl (fun _ => rfl) rfl rfl
    exact ((hstamp.trans (State.resumeAt_quiet _ _)).raise _).allowed
  next => exact (State.QuietStep.refl s).allowed

theorem State.setSleep_quiet (s : State) (w : Word) (b : Bool) : s.QuietStep { s with wakeR := w, sleepArmed := b } :=
  .of_eq rfl rfl rfl (fun _ => rfl) rfl rfl

theorem execPoll_allowed (h : s.Owned) : (execPoll s).Allowed s := by
  unfold execPoll
  split
  next => exact (State.QuietStep.refl s).allowed
  next =>
    split
    next =>
      split
      next => exact (rxchkStep_allowed h).andThen fun u => u.resumeAt_quiet _
      next => exact rxchkStep_allowed h
      next => exact rxchkStep_allowed h
      next => exact rxchkStep_allowed h
    next => split <;> exact ((s.raise_quiet _).trans (State.resumeAt_quiet _ _)).allowed
    next => exact ((s.arrive_quiet _ _ _).trans (State.resumeAt_quiet _ _)).allowed
    next => exact (s.complete_quiet.trans (State.resumeAt_quiet _ _)).allowed
    next =>
      have hsleep : s.QuietStep ({ s.tick with sleepArmed := false }.resumeAt .pSleep) :=
        (s.tick_quiet.trans (State.setSleep_quiet _ _ _)).trans (State.resumeAt_quiet _ _)
      split
      next => exact s.tick_quiet.allowed
      next => exact hsleep.allowed
      next => exact hsleep.allowed
    next => exact rereqStep_allowed h
    next => exact rereqStep_allowed h
    next =>
      split
      next =>
        split
        next => exact (((s.setSleep_quiet _ _).trans (State.resumeAt_quiet _ _)).raise _).allowed
        next => exact (State.QuietStep.refl s).allowed
      next => exact ((s.setSleep_quiet _ _).raise _).allowed

theorem exec_senderOp_allowed (h : s.Owned) : Result.Allowed s (exec s.senderOp s) := by
  unfold State.senderOp
  split
  next => exact execStartup_allowed h
  next => exact execSync_allowed h
  next => exact execSync_allowed h
  next =>
    split
    · exact execSync_allowed h
    · exact execSendTxn_allowed h .sender s.txbufS

end

/-! ### The HOST's turn -/

/-- What the HOST's turn can do (R199): its requests move on and the record gets no channel call; or a frame goes into the
sleeping SENDER's buffer, whose transaction begins. -/
def State.HostStep (s t : State) : Prop :=
  ∃ rs new, (∀ e ∈ new, e.caller = none) ∧
    (t = { s with requests := rs, trace := s.trace ++ new } ∨
      (s.txnS = .idle ∧
        ∃ f, t = { s with requests := rs, trace := s.trace ++ new, txbufS := f, txnS := .acquire }))

/-- The HOST may request a pure operation, whose result it is handed, or a frame to be sent by the SENDER. -/
theorem exec_of_hostMay {i : Instr} (h : hostMay i = true) (s : State) :
    (∃ r, exec i s = .next (s.answer r)) ∨ ∃ f, i = .sendTxn .sender f := by
  cases i
  case sendTxn a f =>
    cases a with
    | sender => exact .inr ⟨f, rfl⟩
    | receiver => cases h
  case resetbuf => cases h
  case arrive => cases h
  case complete => cases h
  case tick => cases h
  case abandon => cases h
  case rereqSend => cases h
  case acquire => cases h
  case release => cases h
  case rxchkTxn => cases h
  case startup => cases h
  case sync => cases h
  case poll => cases h
  case diag => cases h
  all_goals exact .inl ⟨_, rfl⟩

theorem State.answer_hostStep (s : State) (rs : List Request) (r : Except Label Value) :
    s.HostStep ({ s with requests := rs }.answer r) := by
  rw [State.answer_eq]
  refine ⟨rs, _, ?_, .inl rfl⟩
  cases r <;> simp [Event.caller]

theorem State.raise_hostStep (s : State) (rs : List Request) (l : Label) :
    s.HostStep ({ s with requests := rs }.raise l) :=
  s.answer_hostStep rs (.error l)

theorem State.hostStep_refl (s : State) : s.HostStep s := ⟨s.requests, [], by simp, .inl (by simp)⟩

theorem exec_hostStep {i : Instr} {s : State} (hmay : hostMay i = true) (hready : s.hostReady i = true)
    (rs : List Request) : ∃ t, exec i { s with requests := rs } = .next t ∧ s.HostStep t := by
  obtain ⟨r, hr⟩ | ⟨f, rfl⟩ := exec_of_hostMay hmay { s with requests := rs }
  · exact ⟨_, hr, s.answer_hostStep rs r⟩
  · have hidle : s.txnS = .idle := by
      simp only [State.hostReady, Bool.and_eq_true, decide_eq_true_eq] at hready
      exact hready.2
    change ∃ t, execSendTxn .sender f { s with requests := rs } = .next t ∧ s.HostStep t
    unfold execSendTxn
    rw [show ({ s with requests := rs } : State).txn .sender = .idle from hidle]
    dsimp only
    split
    · exact ⟨_, rfl, rs, [.label .ok], by simp [Event.caller], .inr ⟨hidle, f, rfl⟩⟩
    · exact ⟨_, rfl, s.raise_hostStep rs _⟩

/-- On the HOST's turn the machine takes a step, and only these are possible. -/
theorem step_of_host_turn {s t : State} (h : s.TakesInput t) (hturn : t.port.turn = .host) :
    ∃ u, step s = .next u ∧ t.HostStep u := by
  rw [step_of_takesInput h, State.select, hturn]
  dsimp only
  obtain ⟨-, hsel⟩ | ⟨r, rs, -, hcase⟩ := t.selectHost_cases
  · rw [hsel]
    exact ⟨t, rfl, t.hostStep_refl⟩
  · obtain ⟨e, -, hsel⟩ | ⟨i, -, -, hsel⟩ | ⟨i, -, hmay, hready, hsel⟩ | ⟨i, -, -, -, hsel⟩ := hcase <;> rw [hsel]
    · exact ⟨_, rfl, t.raise_hostStep rs _⟩
    · exact ⟨_, rfl, t.raise_hostStep rs _⟩
    · exact exec_hostStep hmay hready rs
    · exact ⟨t, rfl, t.hostStep_refl⟩

theorem State.HostStep.quiet {s t : State} (h : s.HostStep t) : s.QuietStep t := by
  obtain ⟨rs, new, hnew, rfl | ⟨-, f, rfl⟩⟩ := h
  · exact ⟨rfl, id, rfl, fun _ => id, id, new, rfl, hnew⟩
  · have hrecord : s.QuietStep { s with requests := rs, trace := s.trace ++ new, txbufS := f } :=
      ⟨rfl, id, rfl, fun _ => id, id, new, rfl, hnew⟩
    exact hrecord.trans (State.setTxn_quiet (a := .sender) (p := .acquire) _ (by nofun))

/-! ### The machine's step -/

/-- R57, R65: where every place that needs the lock has it, the machine takes a step, and it is one the arbiter allows. -/
theorem step_allowed {s t : State} (h : s.TakesInput t) (ho : s.Owned) : Result.Allowed t (step s) := by
  cases hturn : t.port.turn with
  | sender =>
    rw [step_of_sender_turn h hturn, ← h.senderOp_eq]
    exact exec_senderOp_allowed (ho.takesInput h)
  | receiver =>
    rw [step_of_receiver_turn h hturn]
    exact execPoll_allowed (ho.takesInput h)
  | host =>
    obtain ⟨u, hu, hstep⟩ := step_of_host_turn h hturn
    exact ⟨u, hu, hstep.quiet.arbiterStep⟩

/-- Settles O54: the channel calls of a step the arbiter allows are the lock owner's. -/
theorem channelCallsByTheLockOwner : Obligations.ChannelCallsByTheLockOwner := by
  intro s t hinv hstep
  have htake : s.TakesInput s.sample := State.takesInput_iff_sample.mpr rfl
  obtain ⟨u, hu, hallowed⟩ := step_allowed htake hinv.arbiter.owned
  obtain rfl : t = u := by simpa [hstep] using hu
  have hcalls := hallowed.calls
  rwa [State.takesInput_frame htake] at hcalls

end Sys2Proof.Machine
end

section
/-! PROOF. R65, R191: a transaction ends. The holder of the lock is `State.stepsLeft` own steps away from having released it.
Each of its turns takes one of them (R193, R194), and no turn of anybody else adds one: the other activity waits for the
lock and cannot touch the holder's place (R62), and the HOST touches no transaction that is in progress. -/

namespace Sys2Proof.Machine
open Sys2Proof

/-! ### How far the holder is from its RELEASE -/

/-- The steps of a send transaction from a place that owns the lock, its RELEASE among them (R193). -/
def SendPhase.stepsLeft : SendPhase → Nat
  | .idle => 0
  | .acquire => 0
  | .leaveListen => 4
  | .transmit => 3
  | .restoreListen => 2
  | .release => 1
  | .finish => 0

/-- The steps of a receive-check from a place that owns the lock, its RELEASE among them, when a fragment is there (R194). -/
def RxPhase.stepsLeft : RxPhase → Nat
  | .idle => 0
  | .query => 3
  | .read => 2
  | .release _ => 1

theorem SendPhase.stepsLeft_pos {p : SendPhase} (h : p.holds = true) : 0 < p.stepsLeft := by
  revert h
  cases p <;> decide

theorem SendPhase.stepsLeft_le (p : SendPhase) : p.stepsLeft ≤ 4 := by
  cases p <;> decide

theorem RxPhase.stepsLeft_pos {p : RxPhase} (h : p.holds = true) : 0 < p.stepsLeft := by
  revert h
  cases p <;> simp [RxPhase.holds, RxPhase.stepsLeft]

theorem RxPhase.stepsLeft_le (p : RxPhase) : p.stepsLeft ≤ 4 := by
  cases p <;> simp [RxPhase.stepsLeft]

theorem SendPhase.ne_idle_of_holds {p : SendPhase} (h : p.holds = true) : p ≠ .idle := by
  rintro rfl
  cases h

theorem RxPhase.ne_idle_of_holds {p : RxPhase} (h : p.holds = true) : p ≠ .idle := by
  rintro rfl
  cases h

/-- An activity is inside a transaction that holds the lock, where its sequencer runs that transaction. -/
def State.InTxn (s : State) : Activity → Prop
  | .sender => s.txnS.holds = true ∧ s.sstep ≠ .sDiag
  | .receiver => s.sstep ≠ .sStartup ∧
      (s.rstep = .pRereq ∧ s.txnR.holds = true ∧ s.rxPhase = .idle ∨
        s.rstep = .pRxchk ∧ s.rxPhase.holds = true ∧ s.txnR = .idle)

/-- The steps an activity is away from having released the lock. -/
def State.stepsLeft (s : State) : Activity → Nat
  | .sender => s.txnS.stepsLeft
  | .receiver => s.txnR.stepsLeft + s.rxPhase.stepsLeft

/-- `a` holds the lock, inside its transaction, and nobody else is at a place that needs the lock. -/
structure State.Holding (a : Activity) (s : State) : Prop where
  owned : s.Owned
  lock : s.lock = ownerOf a
  inTxn : s.InTxn a

/-- The turn that is an activity's. -/
def turnOf : Activity → Turn
  | .sender => .sender
  | .receiver => .receiver

/-- One own turn nearer to the release, or there. -/
def State.Progress (a : Activity) (s t : State) : Prop :=
  t.lock = .free ∨ t.InTxn a ∧ t.stepsLeft a < s.stepsLeft a

/-- No nearer to the release, and no farther from it. -/
def State.SamePlace (a : Activity) (s t : State) : Prop := t.InTxn a ∧ t.stepsLeft a = s.stepsLeft a

theorem State.InTxn.stepsLeft_pos {s : State} {a : Activity} (h : s.InTxn a) : 0 < s.stepsLeft a := by
  cases a with
  | sender => exact SendPhase.stepsLeft_pos h.1
  | receiver =>
    obtain ⟨-, ⟨-, hp, -⟩ | ⟨-, hx, -⟩⟩ := h
    · exact Nat.add_pos_left (SendPhase.stepsLeft_pos hp) _
    · exact Nat.add_pos_right _ (RxPhase.stepsLeft_pos hx)

theorem State.InTxn.stepsLeft_le {s : State} {a : Activity} (h : s.InTxn a) : s.stepsLeft a ≤ 4 := by
  cases a with
  | sender => exact s.txnS.stepsLeft_le
  | receiver =>
    obtain ⟨-, ⟨-, -, hx⟩ | ⟨-, -, hp⟩⟩ := h
    · simpa [State.stepsLeft, hx, RxPhase.stepsLeft] using s.txnR.stepsLeft_le
    · simpa [State.stepsLeft, hp, SendPhase.stepsLeft] using s.rxPhase.stepsLeft_le

/-- R200: the owner of the lock is inside a transaction. -/
theorem State.ArbiterInv.holding {s : State} {a : Activity} (h : s.ArbiterInv) (hl : s.lock = ownerOf a) :
    s.Holding a where
  owned := h.owned
  lock := hl
  inTxn := by
    cases a with
    | sender =>
      have hp : s.txnS.holds = true := h.sender_owns.mp hl
      exact ⟨hp, h.send_step (SendPhase.ne_idle_of_holds hp)⟩
    | receiver =>
      have howns : s.txnR.holds = true ∨ s.rxPhase.holds = true := by simpa using h.receiver_owns.mp hl
      obtain hp | hx := howns
      · have hne := SendPhase.ne_idle_of_holds hp
        have hrereq := (h.rereq_step hne).1
        have hstarted : s.sstep ≠ .sStartup := fun hs =>
          have ⟨_, _, hidle, _⟩ := h.startup_first hs
          hne hidle
        refine ⟨hstarted, .inl ⟨hrereq, hp, ?_⟩⟩
        by_contra hx
        exact absurd (hrereq.symm.trans (h.rxchk_step hx)) (by decide)
      · have hne := RxPhase.ne_idle_of_holds hx
        have hrxchk := h.rxchk_step hne
        have hstarted : s.sstep ≠ .sStartup := fun hs =>
          have ⟨_, hidle, _, _⟩ := h.startup_first hs
          hne hidle
        refine ⟨hstarted, .inr ⟨hrxchk, hx, ?_⟩⟩
        by_contra hp
        exact absurd (hrxchk.symm.trans (h.rereq_step hp).1) (by decide)

/-! ### The holder's own turn -/

/-- R193: a step of a send transaction that holds the lock frees it, or is one step nearer to that. -/
theorem sendStep_of_holds {a : Activity} {s t : State} (hp : (s.txn a).holds = true) (h : sendStep a s = .next t) :
    (s.txn a = .release ∧ t.lock = .free) ∨
    (s.txn a ≠ .release ∧ (t.txn a).holds = true ∧ (t.txn a).stepsLeft < (s.txn a).stepsLeft ∧
      t.sstep = s.sstep ∧ t.rstep = s.rstep ∧ t.rxPhase = s.rxPhase) := by
  obtain ⟨-, hq | hq | ⟨hq, -⟩⟩ | ⟨hq, -⟩ | ⟨hq, rfl⟩ | ⟨hq, rfl⟩ | ⟨hq, rfl⟩ | ⟨hq, -, rfl⟩ := sendStep_eq_next h
  · simp [hq, SendPhase.holds] at hp
  · simp [hq, SendPhase.holds] at hp
  · simp [hq, SendPhase.holds] at hp
  · simp [hq, SendPhase.holds] at hp
  · exact .inr (by simp [hq, SendPhase.holds, SendPhase.stepsLeft])
  · exact .inr (by simp [hq, SendPhase.holds, SendPhase.stepsLeft])
  · exact .inr (by simp [hq, SendPhase.holds, SendPhase.stepsLeft])
  · exact .inl ⟨hq, by simp⟩

/-- R194: so does a step of a receive-check. -/
theorem rxchkStep_of_holds {s t : State} (hx : s.rxPhase.holds = true) (h : rxchkStep s = .next t) :
    t.lock = .free ∨
    ((∀ got, s.rxPhase ≠ .release got) ∧ t.rxPhase.holds = true ∧ t.rxPhase.stepsLeft < s.rxPhase.stepsLeft ∧
      t.sstep = s.sstep ∧ t.rstep = s.rstep ∧ t.txnR = s.txnR) := by
  obtain ⟨-, hq, -⟩ | ⟨hq, -⟩ | ⟨hq, rfl⟩ | ⟨hq, rfl⟩ | ⟨got, hq, -, rfl⟩ := rxchkStep_eq_next h
  · simp [hq, RxPhase.holds] at hx
  · simp [hq, RxPhase.holds] at hx
  · refine .inr ?_
    cases s.port.available <;> simp [hq, RxPhase.holds, RxPhase.stepsLeft]
  · exact .inr (by simp [hq, RxPhase.holds, RxPhase.stepsLeft, State.readFragment])
  · exact .inl (by simp)

/-- `u` is what the next step of `a`'s send transaction leads to, but for what a sequencer adds to the RELEASE. -/
def State.SendStepTo (a : Activity) (s u : State) : Prop :=
  ∃ v, sendStep a s = .next v ∧ (u = v ∨ s.txn a = .release ∧ u.lock = v.lock)

theorem State.SendStepTo.progress {a : Activity} {s u : State} (h : s.SendStepTo a u) (hp : (s.txn a).holds = true) :
    u.lock = .free ∨
    ((u.txn a).holds = true ∧ (u.txn a).stepsLeft < (s.txn a).stepsLeft ∧
      u.sstep = s.sstep ∧ u.rstep = s.rstep ∧ u.rxPhase = s.rxPhase) := by
  obtain ⟨v, hv, hend⟩ := h
  obtain ⟨-, hfree⟩ | ⟨hrel, hnearer⟩ := sendStep_of_holds hp hv
  · obtain rfl | ⟨-, hl⟩ := hend
    · exact .inl hfree
    · exact .inl (hl.trans hfree)
  · obtain rfl | ⟨hq, -⟩ := hend
    · exact .inr hnearer
    · exact absurd hq hrel

section
variable {s u : State}

theorem execStartup_of_holds (hs : s.sstep = .sStartup) (hp : s.txnS.holds = true) (h : execStartup s = .next u) :
    s.SendStepTo .sender u := by
  unfold execStartup at h
  simp only [hs] at h
  split at h
  next hq => rw [hq] at hp; cases hp
  next => exact ⟨u, h, .inl rfl⟩
  next => exact ⟨u, h, .inl rfl⟩
  next => exact ⟨u, h, .inl rfl⟩
  next => exact ⟨u, h, .inl rfl⟩
  next hq =>
    obtain ⟨v, hv, rfl⟩ := Result.andThen_eq_next h
    exact ⟨v, hv, .inr ⟨hq, rfl⟩⟩
  next hq => rw [hq] at hp; cases hp

theorem execSync_of_holds (hs : s.sstep = .sSync) (hp : s.txnS.holds = true) (h : execSync s = .next u) :
    s.SendStepTo .sender u := by
  unfold execSync at h
  simp only [hs] at h
  split at h
  next hq => rw [hq] at hp; cases hp
  next => exact ⟨u, h, .inl rfl⟩
  next => exact ⟨u, h, .inl rfl⟩
  next => exact ⟨u, h, .inl rfl⟩
  next => exact ⟨u, h, .inl rfl⟩
  next hq =>
    obtain ⟨v, hv, rfl⟩ := Result.andThen_eq_next h
    exact ⟨v, hv, .inr ⟨hq, rfl⟩⟩
  next hq => rw [hq] at hp; cases hp

theorem rereqStep_of_holds (hr : s.rstep = .pRereq) (hp : s.txnR.holds = true) (h : rereqStep s = .next u) :
    s.SendStepTo .receiver u := by
  unfold rereqStep at h
  simp only [hr] at h
  split at h
  next hq => rw [hq] at hp; cases hp
  next hq =>
    obtain ⟨v, hv, rfl⟩ := Result.andThen_eq_next h
    exact ⟨v, hv, .inr ⟨hq, rfl⟩⟩
  next => exact ⟨u, h, .inl rfl⟩
  next => exact ⟨u, h, .inl rfl⟩
  next => exact ⟨u, h, .inl rfl⟩
  next => exact ⟨u, h, .inl rfl⟩
  next hq => rw [hq] at hp; cases hp

theorem execSendTxn_of_holds {a : Activity} {f : Bytes} (hp : (s.txn a).holds = true)
    (h : execSendTxn a f s = .next u) : s.SendStepTo a u := by
  refine ⟨u, ?_, .inl rfl⟩
  unfold execSendTxn at h
  cases hq : s.txn a with
  | idle => rw [hq] at hp; cases hp
  | finish => rw [hq] at hp; cases hp
  | _ => rw [hq] at h; exact h

/-- R195, R196, R199: inside a transaction that holds the lock, the SENDER's operation is the transaction's next step. -/
theorem exec_senderOp_of_inTxn (hin : s.InTxn .sender) (h : exec s.senderOp s = .next u) : s.SendStepTo .sender u := by
  obtain ⟨hp, hd⟩ := hin
  unfold State.senderOp at h
  split at h
  next hs => exact execStartup_of_holds hs hp h
  next hs => exact execSync_of_holds hs hp h
  next hs => exact absurd hs hd
  next =>
    rw [if_neg (SendPhase.ne_idle_of_holds hp)] at h
    exact execSendTxn_of_holds hp h

theorem exec_senderOp_progress (hin : s.InTxn .sender) (h : exec s.senderOp s = .next u) : s.Progress .sender u := by
  obtain hfree | ⟨hp, hless, hs, -, -⟩ := (exec_senderOp_of_inTxn hin h).progress hin.1
  · exact .inl hfree
  · exact .inr ⟨⟨hp, hs ▸ hin.2⟩, hless⟩

/-- R194, R197: inside a receive-check, POLL is its next step; more follows its RELEASE alone. -/
theorem execPoll_of_rxchk (hs : s.sstep ≠ .sStartup) (hr : s.rstep = .pRxchk) (h : execPoll s = .next u) :
    ∃ v, rxchkStep s = .next v ∧ (u = v ∨ (∃ got, s.rxPhase = .release got) ∧ u.lock = v.lock) := by
  unfold execPoll at h
  rw [if_neg hs] at h
  simp only [hr] at h
  split at h
  next got hq =>
    obtain ⟨v, hv, rfl⟩ := Result.andThen_eq_next h
    exact ⟨v, hv, .inr ⟨⟨got, hq⟩, rfl⟩⟩
  next => exact ⟨u, h, .inl rfl⟩
  next => exact ⟨u, h, .inl rfl⟩
  next => exact ⟨u, h, .inl rfl⟩

theorem execPoll_of_rereq (hs : s.sstep ≠ .sStartup) (hr : s.rstep = .pRereq) : execPoll s = rereqStep s := by
  unfold execPoll
  rw [if_neg hs]
  simp only [hr]

theorem execPoll_progress (hin : s.InTxn .receiver) (h : execPoll s = .next u) : s.Progress .receiver u := by
  obtain ⟨hs, ⟨hr, hp, hx⟩ | ⟨hr, hx, hp⟩⟩ := hin
  · rw [execPoll_of_rereq hs hr] at h
    obtain hfree | ⟨hholds, hless, hs', hr', hx'⟩ := (rereqStep_of_holds hr hp h).progress hp
    · exact .inl hfree
    · refine .inr ⟨⟨hs' ▸ hs, .inl ⟨hr'.trans hr, hholds, hx'.trans hx⟩⟩, ?_⟩
      simp only [State.stepsLeft, hx', Nat.add_lt_add_iff_right]
      exact hless
  · obtain ⟨v, hv, hend⟩ := execPoll_of_rxchk hs hr h
    obtain hfree | ⟨hrel, hholds, hless, hs', hr', hp'⟩ := rxchkStep_of_holds hx hv
    · obtain rfl | ⟨-, hl⟩ := hend
      · exact .inl hfree
      · exact .inl (hl.trans hfree)
    · obtain rfl | ⟨⟨got, hq⟩, -⟩ := hend
      · refine .inr ⟨⟨hs' ▸ hs, .inr ⟨hr'.trans hr, hholds, hp'.trans hp⟩⟩, ?_⟩
        simpa only [State.stepsLeft, hp', Nat.add_lt_add_iff_left] using hless
      · exact absurd hq (hrel got)

/-! ### The others' turns -/

/-- Where an activity is depends on its own sequencer and transactions. -/
theorem State.InTxn.samePlace_sender (hin : s.InTxn .sender) (hp : u.txnS = s.txnS) (hs : u.sstep = s.sstep) :
    s.SamePlace .sender u := by
  simpa only [State.SamePlace, State.InTxn, State.stepsLeft, hp, hs, and_true] using hin

theorem State.InTxn.samePlace_receiver (hin : s.InTxn .receiver) (hs : u.sstep ≠ .sStartup) (hr : u.rstep = s.rstep)
    (hp : u.txnR = s.txnR) (hx : u.rxPhase = s.rxPhase) : s.SamePlace .receiver u := by
  simpa only [State.SamePlace, State.InTxn, State.stepsLeft, hr, hp, hx, and_true] using And.intro hs hin.2

/-- R62: POLL leaves the SENDER's own state as it is. -/
theorem execPoll_keeps_sender (h : execPoll s = .next u) : u = u.withSenderOf s := by
  by_cases hs : s.sstep = .sStartup
  · unfold execPoll at h
    rw [if_pos hs] at h
    obtain rfl := Host.Outcome.next.inj h
    rfl
  · have hcomm : execPoll s = (execPoll s).andThen (·.withSenderOf s) := execPoll_withSenderOf s s hs hs
    rw [h] at hcomm
    exact Host.Outcome.next.inj hcomm

/-- R62: the SENDER's operation leaves the RECEIVER's own state as it is. -/
theorem exec_senderOp_keeps_receiver (h : exec s.senderOp s = .next u) : u = u.withReceiverOf s := by
  have hcomm : exec s.senderOp s = Result.andThen (exec s.senderOp s) (·.withReceiverOf s) :=
    exec_senderOp_withReceiverOf s s s
  rw [h] at hcomm
  exact Host.Outcome.next.inj hcomm

theorem execPoll_samePlace (hin : s.InTxn .sender) (h : execPoll s = .next u) : s.SamePlace .sender u := by
  have hkeep := execPoll_keeps_sender h
  exact hin.samePlace_sender (congrArg State.txnS hkeep :) (congrArg State.sstep hkeep :)

theorem exec_senderOp_samePlace (hin : s.InTxn .receiver) (hs : u.sstep ≠ .sStartup)
    (h : exec s.senderOp s = .next u) : s.SamePlace .receiver u := by
  have hkeep := exec_senderOp_keeps_receiver h
  exact hin.samePlace_receiver hs (congrArg State.rstep hkeep :) (congrArg State.txnR hkeep :)
    (congrArg State.rxPhase hkeep :)

/-- R199: the HOST starts a transaction of the SENDER's only where none is in progress, and none of the RECEIVER's. -/
theorem State.HostStep.samePlace {a : Activity} (h : s.HostStep u) (hin : s.InTxn a) : s.SamePlace a u := by
  obtain ⟨rs, new, -, rfl | ⟨hidle, f, rfl⟩⟩ := h
  · exact ⟨by cases a <;> exact hin, by cases a <;> rfl⟩
  · cases a with
    | sender => exact absurd hidle (SendPhase.ne_idle_of_holds hin.1)
    | receiver => exact ⟨hin, rfl⟩

end

/-! ### One turn of anybody -/

section
variable {a : Activity} {s t u : State}

theorem step_progress (h : s.TakesInput t) (hin : t.InTxn a) (hturn : t.port.turn = turnOf a)
    (hu : step s = .next u) : t.Progress a u := by
  cases a with
  | sender =>
    rw [step_of_sender_turn h hturn, ← h.senderOp_eq] at hu
    exact exec_senderOp_progress hin hu
  | receiver =>
    rw [step_of_receiver_turn h hturn] at hu
    exact execPoll_progress hin hu

theorem step_samePlace (h : s.TakesInput t) (hin : t.InTxn a) (hturn : t.port.turn ≠ turnOf a)
    (hstep : t.ArbiterStep u) (hu : step s = .next u) : t.SamePlace a u := by
  cases hwho : t.port.turn with
  | host =>
    obtain ⟨v, hv, hhost⟩ := step_of_host_turn h hwho
    obtain rfl : u = v := by simpa [hu] using hv
    exact hhost.samePlace hin
  | sender =>
    cases a with
    | sender => exact absurd hwho hturn
    | receiver =>
      rw [step_of_sender_turn h hwho, ← h.senderOp_eq] at hu
      exact exec_senderOp_samePlace hin (hstep.started hin.1) hu
  | receiver =>
    cases a with
    | sender =>
      rw [step_of_receiver_turn h hwho] at hu
      exact execPoll_samePlace hin hu
    | receiver => exact absurd hwho hturn

theorem State.Holding.takesInput (h : s.Holding a) (ht : s.TakesInput t) : t.Holding a where
  owned := h.owned.takesInput ht
  lock := by rw [State.takesInput_frame ht]; exact h.lock
  inTxn := by rw [State.takesInput_frame ht]; cases a <;> exact h.inTxn

theorem State.TakesInput.stepsLeft_eq (ht : s.TakesInput t) : t.stepsLeft a = s.stepsLeft a := by
  rw [State.takesInput_frame ht]
  cases a <;> rfl

theorem State.Holding.lock_ne_free (h : s.Holding a) : s.lock ≠ .free := by
  rw [h.lock]
  cases a <;> decide

/-- From a state in which `a` holds the lock the machine takes a step, after which `a` has released it, or still holds it,
no farther from the release, and nearer if the turn was its own. -/
theorem State.Holding.step (hhold : s.Holding a) (ht : s.TakesInput t) :
    ∃ u, Machine.step s = .next u ∧ u.inputs = t.inputs ∧
      (u.lock = .free ∨
        u.Holding a ∧ u.stepsLeft a + (if t.port.turn = turnOf a then 1 else 0) ≤ s.stepsLeft a) := by
  obtain ⟨u, hu, hstep⟩ := step_allowed ht hhold.owned
  refine ⟨u, hu, hstep.inputs, ?_⟩
  have htaken : t.Holding a := hhold.takesInput ht
  obtain hlock | hfree := hstep.lock htaken.lock_ne_free
  · have howned := hstep.owned htaken.owned htaken.lock_ne_free hlock
    rw [← ht.stepsLeft_eq (a := a)]
    split
    next hturn =>
      obtain hfree | ⟨hin, hless⟩ := step_progress ht htaken.inTxn hturn hu
      · exact .inl hfree
      · exact .inr ⟨⟨howned, hlock.trans htaken.lock, hin⟩, hless⟩
    next hturn =>
      obtain ⟨hin, hsame⟩ := step_samePlace ht htaken.inTxn hturn hstep hu
      exact .inr ⟨⟨howned, hlock.trans htaken.lock, hin⟩, hsame.le⟩
  · exact .inl hfree

end

/-! ### The run -/

/-- A run begins with a step. -/
theorem run_succ_of_step {M : Host.Core} {s u : M.State} (h : M.step s = .next u) (n : Nat) :
    M.run (n + 1) s = M.run n u := by
  simp only [Host.Core.run, h]

/-- R65: by the time its holder has had as many turns as it is steps away from the release, the lock is free. -/
theorem State.Holding.released_within {a : Activity} {turns later : List Input} {s : State} (hhold : s.Holding a)
    (hi : s.inputs = turns ++ later) (hcount : s.stepsLeft a ≤ turns.countP fun x => x.turn == turnOf a) :
    ∃ n t, n ≤ turns.length ∧ Host.Core.run core n s = .next t ∧ t.lock = .free := by
  induction turns generalizing s with
  | nil => exact absurd hcount (Nat.not_le.mpr hhold.inTxn.stepsLeft_pos)
  | cons x turns ih =>
    have ht : s.TakesInput { s with port := x, inputs := turns ++ later, cycle := s.cycle + 1 } :=
      .inl ⟨x, turns ++ later, hi, rfl⟩
    obtain ⟨u, hu, hrest, hfree | ⟨hnext, hleft⟩⟩ := hhold.step ht
    · exact ⟨1, u, by simp, run_succ_of_step (M := core) hu 0, hfree⟩
    · have hcount' : u.stepsLeft a ≤ turns.countP fun x => x.turn == turnOf a := by
        simp only [List.countP_cons, beq_iff_eq] at hcount
        dsimp only at hleft
        omega
      obtain ⟨n, t, hn, hrun, hfree⟩ := ih hnext hrest hcount'
      exact ⟨n + 1, t, Nat.succ_le_succ hn, (run_succ_of_step (M := core) hu n).trans hrun, hfree⟩

/-- Settles O59: the owner of the lock is at most four of its own steps away from having released it. -/
theorem lockIsReleasedWithinFourSteps : Obligations.LockIsReleasedWithinFourSteps := by
  intro s turns later hinv hi
  constructor
  · intro hl hcount
    have hhold : s.Holding .sender := hinv.arbiter.holding hl
    exact hhold.released_within hi (hhold.inTxn.stepsLeft_le.trans hcount)
  · intro hl hcount
    have hhold : s.Holding .receiver := hinv.arbiter.holding hl
    exact hhold.released_within hi (hhold.inTxn.stepsLeft_le.trans hcount)

end Sys2Proof.Machine
end

section
/-! PROOF. R11, R12, R70 to R79, R85, R86: the encodings. Each layout has one rule for reading what was laid out and one
for laying out what was read: byte order, the frame-id byte, the opcode table, the control and time-sync payloads, a raw
fragment as its header, body and last byte, and the two checksum fields. The decoder of a format then answers exactly
the operations whose layout the bytes are. -/

namespace Sys2Proof.Machine
open Sys2Proof

/-! ### Byte order and the frame-id byte -/

section
open BitVec

@[simp] theorem u16_extractLsb' (v : Half) : u16 (v.extractLsb' 8 8) (v.extractLsb' 0 8) = v :=
  (extractLsb'_append_extractLsb'_eq_extractLsb' rfl).trans extractLsb'_eq_self

@[simp] theorem be16_u16 (hi lo : Byte) : be16 (u16 hi lo) = [hi, lo] := by
  have hhi : (u16 hi lo).extractLsb' 8 8 = hi := extractLsb'_append_eq_left
  have hlo : (u16 hi lo).extractLsb' 0 8 = lo := extractLsb'_append_eq_right
  rw [be16, hhi, hlo]

theorem u16_toNat (hi lo : Byte) : (u16 hi lo).toNat = hi.toNat * 256 + lo.toNat :=
  calc
    (u16 hi lo).toNat = hi.toNat <<< 8 ||| lo.toNat := toNat_append hi lo
    _ = hi.toNat <<< 8 + lo.toNat := (Nat.shiftLeft_add_eq_or_of_lt lo.isLt _).symm
    _ = hi.toNat * 256 + lo.toNat := by rw [Nat.shiftLeft_eq]

@[simp] theorem u32_extractLsb' (v : Word) :
    u32 (v.extractLsb' 24 8) (v.extractLsb' 16 8) (v.extractLsb' 8 8) (v.extractLsb' 0 8) = v := by
  have htop2 : v.extractLsb' 24 8 ++ v.extractLsb' 16 8 = v.extractLsb' 16 16 :=
    extractLsb'_append_extractLsb'_eq_extractLsb' rfl
  have htop3 : v.extractLsb' 16 16 ++ v.extractLsb' 8 8 = v.extractLsb' 8 24 :=
    extractLsb'_append_extractLsb'_eq_extractLsb' rfl
  rw [u32, htop2, htop3]
  exact (extractLsb'_append_extractLsb'_eq_extractLsb' rfl).trans extractLsb'_eq_self

@[simp] theorem be32_u32 (b0 b1 b2 b3 : Byte) : be32 (u32 b0 b1 b2 b3) = [b0, b1, b2, b3] := by
  have h0 : (u32 b0 b1 b2 b3).extractLsb' 24 8 = b0 :=
    (extractLsb'_append_eq_of_le (by decide)).trans
      ((extractLsb'_append_eq_of_le (by decide)).trans extractLsb'_append_eq_left)
  have h1 : (u32 b0 b1 b2 b3).extractLsb' 16 8 = b1 :=
    (extractLsb'_append_eq_of_le (by decide)).trans
      ((extractLsb'_append_eq_of_le (by decide)).trans extractLsb'_append_eq_right)
  have h2 : (u32 b0 b1 b2 b3).extractLsb' 8 8 = b2 :=
    (extractLsb'_append_eq_of_le (by decide)).trans extractLsb'_append_eq_right
  have h3 : (u32 b0 b1 b2 b3).extractLsb' 0 8 = b3 := extractLsb'_append_eq_right
  rw [be32, h0, h1, h2, h3]

@[simp] theorem fidIndex_fidByte (last : Bool) (index : BitVec 7) : fidIndex (fidByte last index) = index :=
  extractLsb'_append_eq_right

@[simp] theorem fidLast_fidByte (last : Bool) (index : BitVec 7) : fidLast (fidByte last index) = last := by
  have hbit : fidLast (fidByte last index) = (ofBool last).getLsbD 0 := getLsbD_append
  simp [hbit]

@[simp] theorem fidByte_fidLast_fidIndex (f : Byte) : fidByte (fidLast f) (fidIndex f) = f := by
  have hbit : ofBool (fidLast f) = f.extractLsb' 7 1 := by
    ext i hi
    obtain rfl : i = 0 := by omega
    simp [fidLast]
  rw [fidByte, hbit]
  exact (extractLsb'_append_extractLsb'_eq_extractLsb' rfl).trans extractLsb'_eq_self

theorem fidByte_eq_ofNat (last : Bool) (index : BitVec 7) :
    fidByte last index = BitVec.ofNat 8 ((if last then 128 else 0) + index.toNat) := by
  have hlt := index.isLt
  apply eq_of_toNat_eq
  calc
    (fidByte last index).toNat = (ofBool last).toNat <<< 7 ||| index.toNat := toNat_append _ _
    _ = (ofBool last).toNat <<< 7 + index.toNat := (Nat.shiftLeft_add_eq_or_of_lt hlt _).symm
    _ = (BitVec.ofNat 8 ((if last then 128 else 0) + index.toNat)).toNat := by
      cases last <;> simp <;> omega

end

/-! ### The opcode table -/

/-- R85: a number names an opcode exactly when it is that opcode's code. -/
theorem ofCode_eq_some_iff {n : Nat} {op : ControlOp} : ControlOp.ofCode n = some op ↔ op.code.toNat = n := by
  constructor
  · intro h
    unfold ControlOp.ofCode at h
    repeat (obtain ⟨rfl, h⟩ | ⟨-, h⟩ := ite_eq_iff.mp h; · cases h; rfl)
    cases h
  · rintro rfl
    cases op <;> rfl

theorem code_mem_table (op : ControlOp) : op.code.toNat ∈ [0, 1, 2, 3, 4, 11, 12, 13, 20, 40] := by
  cases op <;> decide

/-- R86: every other number is reserved. -/
theorem ofCode_eq_none {n : Nat} (h : n ∉ [0, 1, 2, 3, 4, 11, 12, 13, 20, 40]) : ControlOp.ofCode n = none := by
  rw [Option.eq_none_iff_forall_ne_some]
  intro op hop
  exact h (ofCode_eq_some_iff.mp hop ▸ code_mem_table op)

@[simp] theorem withOpcode_code (op : ControlOp) (k : ControlOp → Instr) : withOpcode op.code k = .ok (k op) := by
  rw [withOpcode, ofCode_eq_some_iff.mpr rfl]

theorem withOpcode_eq_ok {c : Half} {k : ControlOp → Instr} {i : Instr} (h : withOpcode c k = .ok i) :
    ∃ op, op.code = c ∧ k op = i := by
  unfold withOpcode at h
  split at h
  next op hop => exact ⟨op, BitVec.eq_of_toNat_eq (ofCode_eq_some_iff.mp hop), Except.ok.inj h⟩
  next => cases h

theorem withOpcode_reserved {a b : Byte} (h : a.toNat * 256 + b.toNat ∉ [0, 1, 2, 3, 4, 11, 12, 13, 20, 40])
    (k : ControlOp → Instr) : withOpcode (u16 a b) k = .error .reservedOpcode := by
  rw [withOpcode, u16_toNat, ofCode_eq_none h]

/-! ### Control commands -/

/-- R94: the ten `CTRL.<name>` operations have one layout. -/
theorem encode_ctrlInstr (op : ControlOp) (data : Option Nat) (modifier : Nat) :
    encode (ctrlInstr op data modifier) = ctrlRequest op data modifier := by
  cases op <;> rfl

theorem decodeCtrl_bare (op : ControlOp) : decodeCtrl (be16 op.code) = .ok (ctrlInstr op none 0) := by
  simp [be16, decodeCtrl]

theorem decodeCtrl_data (op : ControlOp) (d m : Half) :
    decodeCtrl (be16 op.code ++ be16 d ++ be16 m) = .ok (ctrlInstr op (some d.toNat) m.toNat) := by
  simp [be16, decodeCtrl]

theorem decode_ctrlRequest (op : ControlOp) {data : Option Nat} {modifier : Nat}
    (h : ctrlOperandsFit data modifier = true) :
    decode (ctrlRequest op data modifier) = .ok (ctrlInstr op data modifier) := by
  cases data with
  | none =>
    obtain rfl : modifier = 0 := of_decide_eq_true h
    exact decodeCtrl_bare op
  | some d =>
    obtain ⟨hd, hm⟩ : d < 2 ^ 16 ∧ modifier < 2 ^ 16 := by simpa [ctrlOperandsFit] using h
    have h6 := decodeCtrl_data op (BitVec.ofNat 16 d) (BitVec.ofNat 16 modifier)
    rwa [BitVec.toNat_ofNat, BitVec.toNat_ofNat, Nat.mod_eq_of_lt hd, Nat.mod_eq_of_lt hm] at h6

theorem encode_of_decodeCtrl {b : Bytes} {i : Instr} (h : decodeCtrl b = .ok i) : encode i = .word .ctrl b := by
  unfold decodeCtrl at h
  split at h
  next =>
    obtain ⟨op, hop, rfl⟩ := withOpcode_eq_ok h
    simp [encode_ctrlInstr, ctrlRequest, controlPayload, hop]
  next =>
    obtain ⟨op, hop, rfl⟩ := withOpcode_eq_ok h
    simp [encode_ctrlInstr, ctrlRequest, controlPayload, hop]
  next => cases h

theorem decodeCtrl2_layout (op : ControlOp) : decodeCtrl2 (be16 op.code) = .ok (.ctrl2 op) := by
  simp [be16, decodeCtrl2]

theorem encode_of_decodeCtrl2 {b : Bytes} {i : Instr} (h : decodeCtrl2 b = .ok i) : encode i = .word .ctrl2 b := by
  unfold decodeCtrl2 at h
  split at h
  next =>
    obtain ⟨op, hop, rfl⟩ := withOpcode_eq_ok h
    simp [encode, hop]
  next => cases h

theorem decodeCtrl6_layout (op : ControlOp) (d m : Half) :
    decodeCtrl6 (be16 op.code ++ be16 d ++ be16 m) = .ok (.ctrl6 op d m) := by
  simp [be16, decodeCtrl6]

theorem encode_of_decodeCtrl6 {b : Bytes} {i : Instr} (h : decodeCtrl6 b = .ok i) : encode i = .word .ctrl6 b := by
  unfold decodeCtrl6 at h
  split at h
  next =>
    obtain ⟨op, hop, rfl⟩ := withOpcode_eq_ok h
    simp [encode, hop]
  next => cases h

/-! ### The frame-id byte, the time-sync payload, the empty payload -/

theorem decodeFid_fidByte (last : Bool) (index : BitVec 7) :
    decodeFid [fidByte last index] = .ok (.fid last index) := by
  simp [decodeFid]

theorem encode_of_decodeFid {b : Bytes} {i : Instr} (h : decodeFid b = .ok i) : encode i = .word .fid b := by
  unfold decodeFid at h
  split at h
  next =>
    obtain rfl := Except.ok.inj h
    simp [encode]
  next => cases h

/-- R77: the fixed bytes leave only the four of the seconds open. -/
theorem eq_tsync_of_isTimesyncPayload {b : Bytes} (h : isTimesyncPayload b = true) :
    b = tsync (u32 (byteAt b 2) (byteAt b 3) (byteAt b 4) (byteAt b 5)) := by
  unfold isTimesyncPayload at h
  split at h
  next => simpa [tsync, byteAt] using h
  next => cases h

theorem decodeTs13_tsync (u : Word) : decodeTs13 (tsync u) = .ok (.ts13 u) := by
  have hlen : (tsync u).length = 13 := rfl
  have hmarkers : isTimesyncPayload (tsync u) = true := rfl
  rw [decodeTs13, hlen, hmarkers]
  exact congrArg (Except.ok ∘ Instr.ts13) (u32_extractLsb' u)

theorem encode_of_decodeTs13 {b : Bytes} {i : Instr} (h : decodeTs13 b = .ok i) : encode i = .word .ts13 b := by
  unfold decodeTs13 at h
  split_ifs at h with hlen hmarkers
  obtain rfl := Except.ok.inj h
  rw [encode, ← eq_tsync_of_isTimesyncPayload (by simpa using hmarkers)]

theorem encode_of_decodeReq0 {b : Bytes} {i : Instr} (h : decodeReq0 b = .ok i) : encode i = .word .req0 b := by
  unfold decodeReq0 at h
  split at h
  next =>
    obtain rfl := Except.ok.inj h
    rfl
  next => cases h

/-! ### Raw fragments -/

theorem slice_of_append (a b c : Bytes) : slice (a ++ b ++ c) a.length (a.length + b.length) = b := by
  simp [slice]

theorem byteAt_append_last (b : Bytes) (k : Byte) : byteAt (b ++ [k]) b.length = k := by
  simp [byteAt]

@[simp] theorem headerBytes_length (type : Byte) (dst src : Word) (fid : Byte) :
    (headerBytes type dst src fid).length = 10 := rfl

@[simp] theorem fragmentBytes_length (f : Fragment) : (fragmentBytes f).length = f.body.length + 11 := by
  simp [fragmentBytes]
  omega

/-- R79, R123: DECODE reads back the fields a raw fragment was laid out from. -/
@[simp] theorem decodeFragment_fragmentBytes (f : Fragment) : decodeFragment (fragmentBytes f) = f := by
  obtain ⟨type, dst, src, last, index, body, k⟩ := f
  have hbody : slice (fragmentBytes ⟨type, dst, src, last, index, body, k⟩) 10 (10 + body.length) = body :=
    slice_of_append (headerBytes type dst src (fidByte last index)) body [k]
  have hlast : byteAt (fragmentBytes ⟨type, dst, src, last, index, body, k⟩) (10 + body.length) = k := by
    have hend := byteAt_append_last (headerBytes type dst src (fidByte last index) ++ body) k
    rwa [List.length_append] at hend
  have hlen : body.length + 11 - 1 = 10 + body.length := by omega
  rw [decodeFragment, fragmentBytes_length, hlen, hbody, hlast]
  simp [fragmentBytes, headerBytes, be32, byteAt]

/-- R79: every byte string of at least 11 bytes is a raw fragment. -/
theorem exists_eq_fragmentBytes {raw : Bytes} (h : 11 ≤ raw.length) : ∃ f, raw = fragmentBytes f := by
  match raw, h with
  | b0 :: b1 :: b2 :: b3 :: b4 :: b5 :: b6 :: b7 :: b8 :: b9 :: b10 :: rest, _ =>
    have hne : b10 :: rest ≠ [] := List.cons_ne_nil b10 rest
    refine ⟨⟨b0, u32 b1 b2 b3 b4, u32 b5 b6 b7 b8, fidLast b9, fidIndex b9, (b10 :: rest).dropLast,
      (b10 :: rest).getLast hne⟩, ?_⟩
    simp only [fragmentBytes, headerBytes, be32_u32, fidByte_fidLast_fidIndex, List.cons_append, List.nil_append,
      List.dropLast_concat_getLast]

theorem decodeRxfrag_fragmentBytes (f : Fragment) :
    decodeRxfrag (fragmentBytes f) = .ok (.rxfrag f.type f.dst f.src f.last f.index f.body f.crc8) := by
  simp [decodeRxfrag, Config.minFrameLen]

theorem encode_of_decodeRxfrag {b : Bytes} {i : Instr} (h : decodeRxfrag b = .ok i) : encode i = .word .rxfrag b := by
  unfold decodeRxfrag at h
  split at h
  next => cases h
  next hlen =>
    obtain ⟨f, rfl⟩ := exists_eq_fragmentBytes (Nat.not_lt.mp hlen)
    obtain rfl := Except.ok.inj h
    simp [encode]

/-! ### The two checksum fields -/

theorem chk8_append (front : Bytes) (k : Byte) : chk8 (front ++ [k]) = (crc8 front == k) := by
  simp [chk8, slice, byteAt]

theorem chk8_fragmentBytes_iff (f : Fragment) :
    chk8 (fragmentBytes f) = true ↔
      f.crc8 = crc8 (headerBytes f.type f.dst f.src (fidByte f.last f.index) ++ f.body) := by
  rw [fragmentBytes, chk8_append, beq_iff_eq, eq_comm]

theorem chk16_append (p : Bytes) (hi lo : Byte) : chk16 (p ++ [hi, lo]) = (crc16 p == u16 hi lo) := by
  simp [chk16, slice, byteAt]

theorem chk16_append_crc16 (p : Bytes) : chk16 (p ++ be16 (crc16 p)) = true := by
  rw [be16, chk16_append, u16_extractLsb', beq_self_eq_true]

/-- R107: CHK16 accepts exactly a message followed by its CRC16. -/
theorem eq_append_crc16_of_chk16 {m : Bytes} (h : chk16 m = true) : ∃ p, m = p ++ be16 (crc16 p) := by
  have hlen : 2 ≤ m.length := by
    by_contra hshort
    simp [chk16, Nat.not_le.mp hshort] at h
  obtain ⟨hi, lo, htail⟩ : ∃ hi lo, m.drop (m.length - 2) = [hi, lo] := List.length_eq_two.mp (by simp; omega)
  have hm : m = m.take (m.length - 2) ++ [hi, lo] := by rw [← htail, List.take_append_drop]
  rw [hm, chk16_append, beq_iff_eq] at h
  refine ⟨m.take (m.length - 2), ?_⟩
  rw [h, be16_u16]
  exact hm

/-! ### Wire frames -/

/-- R70, R79: a wire frame is a raw fragment whose body is the payload with its CRC16 field. -/
theorem frameBytes_eq_fragmentBytes (type : Byte) (dst src : Word) (last : Bool) (index : BitVec 7) (p : Bytes) :
    frameBytes type dst src (fidByte last index) p =
      fragmentBytes ⟨type, dst, src, last, index, p ++ crc16Field p,
        crc8 (headerBytes type dst src (fidByte last index) ++ (p ++ crc16Field p))⟩ := by
  simp [frameBytes, sealCrc8, fragmentBytes]

theorem crc16Field_of_ne_nil {p : Bytes} (h : p ≠ []) : crc16Field p = be16 (crc16 p) := by
  simp [crc16Field, h]

theorem chk8_frameBytes (type : Byte) (dst src : Word) (fid : Byte) (p : Bytes) :
    chk8 (frameBytes type dst src fid p) = true := by
  rw [frameBytes, sealCrc8, chk8_append, beq_self_eq_true]

@[simp] theorem be16_length (v : Half) : (be16 v).length = 2 := rfl

theorem slice_append_be16 (p : Bytes) (v : Half) : slice (p ++ be16 v) 0 ((p ++ be16 v).length - 2) = p := by
  simp [slice]

theorem decodeFrame_frameBytes (type : Byte) (dst src : Word) (last : Bool) (index : BitVec 7) (p : Bytes) :
    decodeFrame (frameBytes type dst src (fidByte last index) p) = .ok (.frame type dst src last index p) := by
  rw [decodeFrame, chk8_frameBytes, frameBytes_eq_fragmentBytes, decodeFragment_fragmentBytes, fragmentBytes_length]
  by_cases hp : p = []
  · simp [hp, crc16Field]
  · have hpos : 0 < p.length := List.length_pos_iff.mpr hp
    have hlen : (p ++ be16 (crc16 p)).length = p.length + 2 := List.length_append
    simp only [crc16Field_of_ne_nil hp, chk16_append_crc16, slice_append_be16, Bool.not_true, Bool.false_eq_true,
      if_false]
    rw [if_neg (by omega), if_neg (by omega)]

/-- A raw fragment with a right CRC8, whose body is a payload with its CRC16 field, is that payload's wire frame. -/
theorem fragmentBytes_eq_frameBytes {f : Fragment} {p : Bytes} (hcrc8 : chk8 (fragmentBytes f) = true)
    (hbody : f.body = p ++ crc16Field p) :
    fragmentBytes f = frameBytes f.type f.dst f.src (fidByte f.last f.index) p := by
  rw [frameBytes_eq_fragmentBytes, ← hbody, ← (chk8_fragmentBytes_iff f).mp hcrc8]

/-- What the decoder of FRAME accepts is a wire frame: its body is empty, or a payload and the payload's CRC16. -/
theorem decodeFrame_eq_ok {b : Bytes} {i : Instr} (h : decodeFrame b = .ok i) :
    ∃ type dst src last index p, b = frameBytes type dst src (fidByte last index) p ∧
      i = .frame type dst src last index p := by
  unfold decodeFrame at h
  dsimp only at h
  split_ifs at h with hcrc8 hempty hshort hcrc16
  · obtain ⟨f, rfl⟩ := exists_eq_fragmentBytes hempty.ge
    obtain rfl := Except.ok.inj h
    simp only [Bool.not_eq_true', Bool.not_eq_false, fragmentBytes_length, decodeFragment_fragmentBytes]
      at hcrc8 hempty ⊢
    have hbody : f.body = [] := List.eq_nil_of_length_eq_zero (by omega)
    exact ⟨_, _, _, _, _, _, fragmentBytes_eq_frameBytes hcrc8 hbody, rfl⟩
  · obtain ⟨f, rfl⟩ := exists_eq_fragmentBytes (raw := b) (by omega)
    obtain rfl := Except.ok.inj h
    simp only [Bool.not_eq_true', Bool.not_eq_false, fragmentBytes_length, decodeFragment_fragmentBytes]
      at hcrc8 hshort hcrc16 ⊢
    obtain ⟨p, hp⟩ := eq_append_crc16_of_chk16 hcrc16
    have hne : p ≠ [] := by
      rintro rfl
      rw [hp] at hshort
      exact hshort (by decide)
    have hpayload : slice f.body 0 (f.body.length - 2) = p := hp ▸ slice_append_be16 p (crc16 p)
    rw [← crc16Field_of_ne_nil hne] at hp
    exact ⟨_, _, _, _, _, _, fragmentBytes_eq_frameBytes hcrc8 hp, by rw [hpayload]⟩

theorem encode_of_decodeFrame {b : Bytes} {i : Instr} (h : decodeFrame b = .ok i) : encode i = .word .frame b := by
  obtain ⟨type, dst, src, last, index, p, rfl, rfl⟩ := decodeFrame_eq_ok h
  rfl

/-! ### All formats -/

/-- Settles O21: each format's decoder reads back what its layout holds, and a request by name names the operation. -/
theorem decodeEncodeRoundTrip : Obligations.DecodeEncodeRoundTrip := by
  intro i h
  cases i
  case ctrlOn => exact decode_ctrlRequest .on h
  case ctrlOff => exact decode_ctrlRequest .off h
  case ctrlRestoreLastAction => exact decode_ctrlRequest .restoreLastAction h
  case ctrlLock => exact decode_ctrlRequest .lock h
  case ctrlUnlock => exact decode_ctrlRequest .unlock h
  case ctrlActivePowerLimit => exact decode_ctrlRequest .activePowerLimit h
  case ctrlReactivePowerLimit => exact decode_ctrlRequest .reactivePowerLimit h
  case ctrlPowerFactor => exact decode_ctrlRequest .powerFactor h
  case ctrlLockAndAlarm => exact decode_ctrlRequest .lockAndAlarm h
  case ctrlSelfInspect => exact decode_ctrlRequest .selfInspect h
  case fid => exact decodeFid_fidByte ..
  case frame => exact decodeFrame_frameBytes ..
  case ctrl2 op => exact decodeCtrl2_layout op
  case ctrl6 op d m => exact decodeCtrl6_layout op d m
  case ts13 u => exact decodeTs13_tsync u
  case req0 => rfl
  case rxfrag => exact decodeRxfrag_fragmentBytes _
  all_goals rfl

/-- Settles O22: no format's decoder ignores a bit. -/
theorem encodeOfDecodedBytes : Obligations.EncodeOfDecodedBytes := by
  intro f b i h
  cases f with
  | ctrl => exact encode_of_decodeCtrl h
  | fid => exact encode_of_decodeFid h
  | frame => exact encode_of_decodeFrame h
  | ctrl2 => exact encode_of_decodeCtrl2 h
  | ctrl6 => exact encode_of_decodeCtrl6 h
  | ts13 => exact encode_of_decodeTs13 h
  | req0 => exact encode_of_decodeReq0 h
  | rxfrag => exact encode_of_decodeRxfrag h

/-- Settles O23: in each format the opcode field is looked up in the table before anything else. -/
theorem reservedOpcodesRejected : Obligations.ReservedOpcodesRejected := by
  intro a b c d e f h
  exact ⟨withOpcode_reserved h _, withOpcode_reserved h _, withOpcode_reserved h _, withOpcode_reserved h _⟩

/-- R85: the table word of an opcode is that opcode's bare command. -/
theorem decodeTableWord_code (op : ControlOp) : decodeTableWord 16 op.code.toNat = some (ctrlInstr op none 0) := by
  have hword : tableRequest 16 op.code.toNat = .word .ctrl (be16 op.code) := by
    simp [tableRequest, halvesBig]
  rw [decodeTableWord, hword, decode, decodeBytes, decodeCtrl_bare]

/-- Settles O24: the ten words are the codes of the table; the three byte strings are layouts of their operations. -/
theorem writtenOutWordsDecode : Obligations.WrittenOutWordsDecode :=
  ⟨decodeTableWord_code .on, decodeTableWord_code .off, decodeTableWord_code .restoreLastAction,
    decodeTableWord_code .lock, decodeTableWord_code .unlock, decodeTableWord_code .activePowerLimit,
    decodeTableWord_code .reactivePowerLimit, decodeTableWord_code .powerFactor, decodeTableWord_code .lockAndAlarm,
    decodeTableWord_code .selfInspect, decodeEncodeRoundTrip (.fid true 3) rfl,
    decodeEncodeRoundTrip (.ctrl6 .activePowerLimit 0x01F4 0x0101) rfl, decodeEncodeRoundTrip (.ts13 0x65432100) rfl⟩

/-! ### The format rows as operations -/

/-- Settles O18: each row answers its layout, which for FID is `128 * LAST + index`. -/
theorem payloadFormatRowsLayOutTheirBytes : Obligations.PayloadFormatRowsLayOutTheirBytes := by
  intro s
  refine ⟨fun last index => ?_, fun op => rfl, fun op d m => rfl, fun u => rfl, rfl⟩
  rw [← fidByte_eq_ofNat]
  rfl

theorem crc16Field_eq_ite (p : Bytes) : crc16Field p = if 0 < p.length then be16 (crc16 p) else [] := by
  cases p <;> rfl

theorem encodeFrame_of_le {c : Params} {p : Bytes} (h : p.length ≤ c.maxTxPayload) (type : Byte) (dst src : Word)
    (fid : Byte) : encodeFrame c type dst src fid p = .ok (frameBytes type dst src fid p) :=
  if_neg (Nat.not_lt.mpr h)

theorem encodeFrame_of_lt {c : Params} {p : Bytes} (h : c.maxTxPayload < p.length) (type : Byte) (dst src : Word)
    (fid : Byte) : encodeFrame c type dst src fid p = .error .refusePayloadTooLong :=
  if_pos h

theorem fragmentLengthOk_fragmentBytes (c : Params) (f : Fragment) :
    c.fragmentLengthOk (fragmentBytes f).length = decide (f.body.length + 11 ≤ c.maxFrameLen) := by
  simp [Params.fragmentLengthOk, Config.minFrameLen]

/-- Settles O19: FRAME and RXFRAG answer their layout, or are refused and dropped above their length bound. -/
theorem frameFormatRowsLayOutTheirBytes : Obligations.FrameFormatRowsLayOutTheirBytes := by
  intro type dst src last index b k s
  have hframe : exec (.frame type dst src last index b) s =
      .next (s.answer ((encodeFrame s.cfg type dst src (fidByte last index) b).map .bytes)) := rfl
  have hrxfrag : exec (.rxfrag type dst src last index b k) s = .next (s.answer
      (if s.cfg.fragmentLengthOk (fragmentBytes ⟨type, dst, src, last, index, b, k⟩).length then
        .ok (.bytes (fragmentBytes ⟨type, dst, src, last, index, b, k⟩)) else .error .dropLength)) := rfl
  rw [fragmentLengthOk_fragmentBytes] at hrxfrag
  refine ⟨fun hle => ?_, fun hlt => ?_, fun hle => ?_, fun hlt => ?_⟩
  · rw [hframe, encodeFrame_of_le hle, ← crc16Field_eq_ite]
    rfl
  · rw [hframe, encodeFrame_of_lt hlt]
    rfl
  · rw [hrxfrag, if_pos (decide_eq_true hle)]
    rfl
  · rw [hrxfrag, if_neg (by simpa using hlt)]
    rfl

end Sys2Proof.Machine
end

section
/-! PROOF. R100 to R108: the checksums. One shift of the CRC16 register can be undone, because its top bit afterwards is the
bit that was shifted out; so no two registers, and no two bytes, lead to one, and a single changed bit stays visible to the
end. One shift of the CRC8 register is a rotation, because its polynomial is x^8 + 1; so eight of them change nothing, and
CRC8 is the XOR of all bytes. The two checks compare with these. -/

namespace Sys2Proof.Machine
open Sys2Proof

/-! ### CRC16 as a loop -/

theorem crc16Shifts_eq_iterate (n : Nat) (crc : Half) : crc16Shifts n crc = crc16Shift^[n] crc := by
  induction n generalizing crc with
  | zero => rfl
  | succ n ih => exact ih (crc16Shift crc)

/-- R102 (b): the register streams. -/
theorem crc16From_append (crc : Half) (a b : Bytes) : crc16From crc (a ++ b) = crc16From (crc16From crc a) b :=
  List.foldl_append

theorem crc16_append (a b : Bytes) : crc16 (a ++ b) = crc16From (crc16 a) b :=
  crc16From_append _ a b

@[simp] theorem crc16_nil : crc16 [] = 0xFFFF := rfl

/-! ### CRC16 loses nothing -/

/-- The bit shifted out comes back as the top bit: the polynomial has it set, and a shift alone leaves it clear. -/
theorem crc16Shift_getLsbD_top (crc : Half) : (crc16Shift crc).getLsbD 15 = crc.getLsbD 0 := by
  unfold crc16Shift
  split
  next h => simp [h, Config.crc16PolyReflected]
  next h => simpa using h

/-- A register is its lowest bit and what a shift leaves of it. -/
theorem eq_of_lowest_of_ushiftRight {a b : Half} (hlow : a.getLsbD 0 = b.getLsbD 0) (hrest : a >>> 1 = b >>> 1) :
    a = b := by
  apply BitVec.eq_of_getLsbD_eq
  intro i _
  cases i with
  | zero => exact hlow
  | succ i =>
    have hbit := congrArg (BitVec.getLsbD · i) hrest
    simpa [Nat.add_comm] using hbit

theorem crc16Shift_injective : Function.Injective crc16Shift := by
  intro a b h
  have hlow : a.getLsbD 0 = b.getLsbD 0 := by
    rw [← crc16Shift_getLsbD_top, ← crc16Shift_getLsbD_top, h]
  refine eq_of_lowest_of_ushiftRight hlow ?_
  unfold crc16Shift at h
  rw [hlow] at h
  split at h
  · exact (BitVec.xor_left_inj _).mp h
  · exact h

theorem crc16Shifts_injective (n : Nat) : Function.Injective (crc16Shifts n) := by
  rw [funext (crc16Shifts_eq_iterate n)]
  exact crc16Shift_injective.iterate n

/-- Different registers stay different over the same byte. -/
theorem crc16Byte_injective_register (b : Byte) : Function.Injective (crc16Byte · b) :=
  fun _ _ h => (BitVec.xor_left_inj _).mp (crc16Shifts_injective 8 h)

/-- Different bytes lead one register to different ones. -/
theorem crc16Byte_injective_byte (crc : Half) : Function.Injective (crc16Byte crc) := by
  intro x y h
  have hwide : x.setWidth 16 = y.setWidth 16 := (BitVec.xor_right_inj _).mp (crc16Shifts_injective 8 h)
  simpa using congrArg (BitVec.setWidth 8) hwide

/-- Different registers stay different over the same bytes. -/
theorem crc16From_injective (b : Bytes) : Function.Injective (crc16From · b) := by
  induction b with
  | nil => exact Function.injective_id
  | cons x b ih => exact ih.comp (crc16Byte_injective_register x)

/-- A change of one byte, whatever the change, changes the CRC16. -/
theorem crc16_ne_of_byte_ne (front back : Bytes) {x y : Byte} (h : x ≠ y) :
    crc16 (front ++ x :: back) ≠ crc16 (front ++ y :: back) := by
  rw [crc16_append, crc16_append]
  exact (crc16From_injective back).ne ((crc16Byte_injective_byte (crc16 front)).ne h)

theorem flipBit_ne_self (x : Byte) {j : Nat} (h : j < 8) : x ^^^ (1#8 <<< j) ≠ x := by
  intro heq
  have hbit := congrArg (BitVec.getLsbD · j) heq
  simp [h] at hbit

/-- Settles O3: a flipped bit makes a different byte. -/
theorem crc16ChangesOnSingleBitFlip : Obligations.Crc16ChangesOnSingleBitFlip :=
  fun front back x _ hj => crc16_ne_of_byte_ne front back (flipBit_ne_self x hj)

/-! ### CRC8 is an XOR -/

theorem crc8Shifts_eq_iterate (n : Nat) (crc : Byte) : crc8Shifts n crc = crc8Shift^[n] crc := by
  induction n generalizing crc with
  | zero => rfl
  | succ n ih => exact ih (crc8Shift crc)

/-- Between x^8 and 1 the polynomial has no term. -/
theorem crc8Poly_getLsbD_succ {i : Nat} (h : i < 7) : Config.crc8Poly.getLsbD (i + 1) = false := by
  revert i
  decide

/-- One inner step of R103 rotates the register left by one bit. -/
theorem crc8Shift_getLsbD (crc : Byte) {i : Nat} (h : i < 8) :
    (crc8Shift crc).getLsbD i = crc.getLsbD ((i + 7) % 8) := by
  cases i with
  | zero =>
    unfold crc8Shift
    split
    next htop => simp [htop, Config.crc8Poly]
    next htop => simpa using htop
  | succ i =>
    have hmod : (i + 1 + 7) % 8 = i := by omega
    have hi : i < 8 := by omega
    rw [hmod, BitVec.getLsbD_eq_getElem hi]
    unfold crc8Shift
    split <;> simp [h, crc8Poly_getLsbD_succ (Nat.lt_of_succ_lt_succ h)]

theorem crc8Shifts_getLsbD (n : Nat) (crc : Byte) {i : Nat} (h : i < 8) :
    (crc8Shifts n crc).getLsbD i = crc.getLsbD ((i + 7 * n) % 8) := by
  induction n generalizing crc with
  | zero => rw [Nat.mul_zero, Nat.add_zero, Nat.mod_eq_of_lt h, crc8Shifts]
  | succ n ih =>
    rw [crc8Shifts, ih, crc8Shift_getLsbD _ (Nat.mod_lt _ (by decide))]
    congr 1
    omega

/-- Eight rotations of eight bits change nothing. -/
theorem crc8Shifts_eight (crc : Byte) : crc8Shifts 8 crc = crc := by
  apply BitVec.eq_of_getLsbD_eq
  intro i h
  rw [crc8Shifts_getLsbD 8 crc h]
  congr 1
  omega

@[simp] theorem crc8Byte_eq_xor (crc b : Byte) : crc8Byte crc b = crc ^^^ b :=
  crc8Shifts_eight (crc ^^^ b)

/-- R104: CRC8 is the XOR of all bytes. -/
theorem crc8_eq_foldl_xor (b : Bytes) : crc8 b = b.foldl (· ^^^ ·) 0 := by
  have hbyte : crc8Byte = (· ^^^ ·) := funext₂ crc8Byte_eq_xor
  rw [crc8, hbyte]
  rfl

@[simp] theorem crc8_nil : crc8 [] = 0x00 := rfl

theorem crc8_cons (x : Byte) (b : Bytes) : crc8 (x :: b) = x ^^^ crc8 b := by
  rw [crc8_eq_foldl_xor, crc8_eq_foldl_xor, List.foldl_cons, BitVec.xor_comm]
  exact List.foldl_assoc

theorem crc8_append (a b : Bytes) : crc8 (a ++ b) = crc8 a ^^^ crc8 b := by
  induction a with
  | nil => simp
  | cons x a ih => rw [List.cons_append, crc8_cons, crc8_cons, ih, BitVec.xor_assoc]

theorem crc8_append_singleton (b : Bytes) (x : Byte) : crc8 (b ++ [x]) = crc8 b ^^^ x := by
  simp [crc8_append, crc8_cons]

theorem crc8_perm {a b : Bytes} (h : a.Perm b) : crc8 a = crc8 b := by
  rw [crc8_eq_foldl_xor, crc8_eq_foldl_xor]
  exact h.foldl_op_eq

/-- Settles O5: XOR is associative and commutative, each byte its own inverse and 0 its unit. -/
theorem crc8IsXorOfAllBytes : Obligations.Crc8IsXorOfAllBytes := by
  refine ⟨crc8_eq_foldl_xor, crc8_nil, fun x => ?_, crc8_append, fun f => ?_, fun a b => ?_, fun _ _ => crc8_perm⟩
  · rw [crc8_cons, crc8_nil]
    exact BitVec.xor_zero
  · rw [crc8_append_singleton]
    exact BitVec.xor_self
  · rw [crc8_append, crc8_append, crc8_cons]
    exact congrArg (crc8 a ^^^ ·) BitVec.zero_xor

/-! ### The two checks -/

theorem chk16_of_length_lt_two {m : Bytes} (h : m.length < 2) : chk16 m = false := if_pos h

/-- R107: CHK16 compares an appended 16-bit value with the CRC16 of what stands before it. -/
theorem chk16_append_be16 (p : Bytes) (v : Half) : chk16 (p ++ be16 v) = (crc16 p == v) := by
  rw [be16, chk16_append, u16_extractLsb']

/-- Settles O8: the flipped bit changes the CRC16 of the payload, and the appended one is that of the payload as it was. -/
theorem chk16AcceptsAppendedCrc : Obligations.Chk16AcceptsAppendedCrc := by
  refine ⟨chk16_append_crc16, fun front back x j hj => ?_⟩
  rw [chk16_append_be16]
  exact beq_false_of_ne (crc16ChangesOnSingleBitFlip front back x j hj)

theorem u16_inj {hi lo hi' lo' : Byte} : u16 hi lo = u16 hi' lo' ↔ hi = hi' ∧ lo = lo' := by
  refine ⟨fun h => ?_, fun ⟨hhi, hlo⟩ => hhi ▸ hlo ▸ rfl⟩
  simpa using congrArg be16 h

/-- CHK16 as R107 reads the two bytes, high byte first. -/
theorem chk16_append_eq_decide (d : Bytes) (hi lo : Byte) :
    chk16 (d ++ [hi, lo]) = decide ((crc16 d).toNat = hi.toNat * 256 + lo.toNat) := by
  rw [chk16_append, ← u16_toNat, Bool.beq_eq_decide_eq]
  exact decide_eq_decide.mpr BitVec.toNat_inj.symm

/-- CHK16 hands its caller the comparison. -/
theorem exec_chk16 (m : Bytes) (s : State) :
    exec (.chk16 m) s = .next { s with trace := s.trace ++ [.returned (.bit (chk16 m)), .label .ok] } := rfl

/-- CHK8 hands its caller the comparison, when there is a byte to compare with. -/
theorem exec_chk8_of_ne_nil {raw : Bytes} (h : raw ≠ []) (s : State) :
    exec (.chk8 raw) s = .next { s with trace := s.trace ++ [.returned (.bit (chk8 raw)), .label .ok] } := by
  change execChk8 raw s = _
  rw [execChk8, List.isEmpty_eq_false_iff.mpr h]
  rfl

/-! ### The four operations -/

/-- Settles O1: the model's inner loop is the iterated shift. -/
theorem crc16RunsTheReflectedLoop : Obligations.Crc16RunsTheReflectedLoop := by
  refine ⟨fun b s => ?_, by decide +kernel⟩
  have hbyte : crc16Byte = fun crc x => crc16Shift^[8] (crc ^^^ x.setWidth 16) :=
    funext₂ fun _ _ => crc16Shifts_eq_iterate 8 _
  change execCrc16 b s = _
  rw [execCrc16, crc16, crc16From, hbyte]
  rfl

/-- Settles O2: the streaming law of the fold; the rest are runs of the loop over one or two bytes. -/
theorem crc16StreamsAndFixedValues : Obligations.Crc16StreamsAndFixedValues := by
  refine ⟨crc16_nil, crc16_append, ?_⟩
  decide

/-- Settles O4: the model's inner loop is the iterated shift. -/
theorem crc8RunsTheLeftShiftingLoop : Obligations.Crc8RunsTheLeftShiftingLoop := by
  refine ⟨fun b s => ?_, by decide +kernel⟩
  have hbyte : crc8Byte = fun crc x => crc8Shift^[8] (crc ^^^ x) := funext₂ fun _ _ => crc8Shifts_eq_iterate 8 _
  change execCrc8 b s = _
  rw [execCrc8, crc8, hbyte]
  rfl

/-- Settles O6: the last byte is the CRC8 of the others exactly when their XOR is 0. -/
theorem chk8ComparesTheLastByte : Obligations.Chk8ComparesTheLastByte := by
  refine ⟨fun front last s => ?_, fun front last => ?_, ?_⟩
  · rw [exec_chk8_of_ne_nil (by simp), chk8_append, Bool.beq_eq_decide_eq]
  · rw [crc8_append_singleton]
    exact BitVec.xor_eq_zero_iff.symm
  · decide +kernel

/-- Settles O7: CHK16 is the comparison with the last two bytes read as one number. -/
theorem chk16ComparesBigEndian : Obligations.Chk16ComparesBigEndian := by
  refine ⟨fun m s h => ?_, fun d hi lo s => ?_, fun hi lo => ?_, ?_⟩
  · rw [exec_chk16, chk16_of_length_lt_two h]
  · rw [exec_chk16, chk16_append_eq_decide]
  · have hempty : chk16 [hi, lo] = (0xFFFF == u16 hi lo) := chk16_append [] hi lo
    have hones : (0xFFFF : Half) = u16 0xFF 0xFF := rfl
    rw [hempty, beq_iff_eq, hones, u16_inj]
    exact and_congr eq_comm eq_comm
  · decide +kernel

end Sys2Proof.Machine
end

section
/-! PROOF. R109, R165, R173 (h): telemetry. A step is silent when what it adds to the record holds no telemetry event. Every
operation a turn can run is silent but one: POLL at `P_COMPLETE`, which is COMPLETE, whose cases say when it emits. -/

namespace Sys2Proof.Machine
open Sys2Proof

/-- What `t` adds to the record of `s` holds no telemetry event. -/
def State.Silent (s t : State) : Prop := ∃ new, t.trace = s.trace ++ new ∧ ∀ d, .telemetry d ∉ new

/-- A result whose next state, if there is one, comes silently after `s`. -/
def Result.Silent (s : State) (r : Result) : Prop := ∀ t, r = .next t → s.Silent t

/-! ### The rules of `Silent` -/

section
variable {s t : State} {r : Result}

theorem State.Silent.of_trace_eq (h : t.trace = s.trace) : s.Silent t := ⟨[], by simp [h], by simp⟩

theorem State.Silent.of_label {l : Label} (h : t.trace = s.trace ++ [.label l]) : s.Silent t := ⟨[.label l], h, by simp⟩

theorem State.Silent.next (h : s.Silent t) : Result.Silent s (.next t) := by
  rintro u ⟨⟩
  exact h

theorem Result.Silent.unrecorded (h : t.trace = s.trace) : Result.Silent s (.next t) := (State.Silent.of_trace_eq h).next

theorem Result.Silent.labelled {l : Label} (h : t.trace = s.trace ++ [.label l]) : Result.Silent s (.next t) :=
  (State.Silent.of_label h).next

theorem Result.Silent.andThen {f : State → State} (h : r.Silent s) (hf : ∀ u, (f u).trace = u.trace) :
    (r.andThen f).Silent s := by
  intro t ht
  obtain ⟨u, hu, rfl⟩ := Result.andThen_eq_next ht
  obtain ⟨new, htrace, hnew⟩ := h u hu
  exact ⟨new, (hf u).trans htrace, hnew⟩

end

/-! ### The silent operations -/

section
variable (s : State)

theorem State.answer_silent (r : Except Label Value) : s.Silent (s.answer r) := by
  rw [State.answer_eq]
  refine ⟨_, s.emit_trace _, ?_⟩
  cases r <;> simp

theorem State.arrive_silent (index : BitVec 7) (last : Bool) (body : Bytes) : s.Silent (s.arrive index last body) := by
  have hat : (s.arriveAt index.toNat last body).trace = s.trace := by
    change s.beginSequence.trace = s.trace
    unfold State.beginSequence
    split <;> rfl
  obtain ⟨-, h⟩ | ⟨-, -, h⟩ | ⟨-, -, h⟩ := s.arrive_cases index last body <;> rw [h]
  · exact .of_label rfl
  · exact .of_label rfl
  · exact .of_label (by rw [State.raise_trace, hat])

theorem State.tick_silent : s.Silent s.tick := by
  obtain ⟨-, -, h⟩ | ⟨-, -, -, h⟩ | ⟨-, -, -, h⟩ := s.tick_cases <;> rw [h] <;> exact .of_label rfl

/-- R193: a send transaction records its channel calls and labels. -/
theorem sendStep_silent (a : Activity) : (sendStep a s).Silent s := by
  intro t h
  obtain ⟨rfl, -⟩ | ⟨-, -, rfl⟩ | ⟨-, rfl⟩ | ⟨-, rfl⟩ | ⟨-, rfl⟩ | ⟨-, -, rfl⟩ := sendStep_eq_next h
  · exact .of_trace_eq rfl
  · exact .of_label (l := .ok) (by simp)
  · exact ⟨[.setListenMode a false, .label .ok], by simp, by simp⟩
  · exact ⟨[.sendFragment a (s.txbuf a) s.port.ack, .label (ackLabel s.port.ack)], by simp, by simp⟩
  · exact ⟨[.setListenMode a true, .label .ok], by simp, by simp⟩
  · exact .of_label (l := .ok) (by simp)

/-- R194: so does a receive-check. -/
theorem rxchkStep_silent : (rxchkStep s).Silent s := by
  intro t h
  obtain ⟨rfl, -⟩ | ⟨-, -, rfl⟩ | ⟨-, rfl⟩ | ⟨-, rfl⟩ | ⟨-, -, -, rfl⟩ := rxchkStep_eq_next h
  · exact .of_trace_eq rfl
  · exact .of_label rfl
  · exact ⟨[.isFragmentAvailable .receiver s.port.available, .label .ok], by simp, by simp⟩
  · exact ⟨[.readFragment .receiver s.port.fragment, .label .ok], by simp [State.readFragment], by simp⟩
  · exact .of_label rfl

theorem execSendTxn_silent (a : Activity) (f : Bytes) : (execSendTxn a f s).Silent s := by
  unfold execSendTxn
  cases s.txn a with
  | idle =>
    dsimp only
    split
    · exact .labelled (l := .ok) (by simp)
    · exact .labelled rfl
  | finish => exact .unrecorded rfl
  | _ => exact sendStep_silent s a

theorem execStartup_silent : (execStartup s).Silent s := by
  unfold execStartup
  cases s.sstep with
  | sStartup =>
    cases s.txnS with
    | idle => cases startupFrame s.cfg <;> exact .labelled rfl
    | release => exact (sendStep_silent s .sender).andThen fun _ => rfl
    | finish => exact .labelled rfl
    | _ => exact sendStep_silent s .sender
  | _ => exact .unrecorded rfl

theorem execSync_silent : (execSync s).Silent s := by
  unfold execSync
  cases s.sstep with
  | sStartup => exact .unrecorded rfl
  | sSync =>
    cases s.txnS with
    | idle => cases commandFrame s.cfg (.timesync (tsync s.port.unixSeconds)) <;> exact .labelled rfl
    | release => exact (sendStep_silent s .sender).andThen fun _ => rfl
    | finish => exact .unrecorded rfl
    | _ => exact sendStep_silent s .sender
  | sDiag => exact .labelled rfl
  | sSleep =>
    dsimp only
    split
    · exact .labelled rfl
    · exact .unrecorded rfl

theorem exec_senderOp_silent (t : State) : Result.Silent t (exec s.senderOp t) := by
  unfold State.senderOp
  cases s.sstep with
  | sStartup => exact execStartup_silent t
  | sSync => exact execSync_silent t
  | sDiag => exact execSync_silent t
  | sSleep =>
    dsimp only
    split
    · exact execSync_silent t
    · exact execSendTxn_silent t .sender s.txbufS

theorem rereqStep_silent : (rereqStep s).Silent s := by
  unfold rereqStep
  cases s.rstep with
  | pRereq =>
    cases s.txnR with
    | idle => cases s.rereqFrame <;> exact .labelled rfl
    | release => exact (sendStep_silent s .receiver).andThen fun _ => rfl
    | finish => exact .unrecorded rfl
    | _ => exact sendStep_silent s .receiver
  | pStamp => exact .labelled rfl
  | _ => exact .unrecorded rfl

/-- R197: at every place but `P_COMPLETE` POLL is silent. -/
theorem execPoll_silent (h : s.rstep ≠ .pComplete) : (execPoll s).Silent s := by
  unfold execPoll
  split
  next => exact .unrecorded rfl
  next =>
    cases hr : s.rstep with
    | pRxchk =>
      cases s.rxPhase with
      | release got => exact (rxchkStep_silent s).andThen fun _ => rfl
      | _ => exact rxchkStep_silent s
    | pValidate => cases validate s.cfg s.rxlen s.rxbuf <;> exact .labelled rfl
    | pStore => exact State.Silent.next (s.arrive_silent _ _ _)
    | pComplete => exact absurd hr h
    | pRetry => cases s.tickOutcome <;> exact State.Silent.next s.tick_silent
    | pRereq => exact rereqStep_silent s
    | pStamp => exact rereqStep_silent s
    | pSleep =>
      dsimp only
      split
      next =>
        split
        · exact .labelled rfl
        · exact .unrecorded rfl
      next => exact .labelled rfl

/-- R199: what the HOST may request is silent. -/
theorem exec_silent_of_hostMay {i : Instr} (h : hostMay i = true) : Result.Silent s (exec i s) := by
  obtain ⟨r, hr⟩ | ⟨f, rfl⟩ := exec_of_hostMay h s
  · rw [hr]
    exact (s.answer_silent r).next
  · exact execSendTxn_silent s .sender f

end

/-! ### The completion check -/

/-- The step from `s` to `t` shows one telemetry event: the message of a full sequence that passes CHK16, without its last
two bytes. -/
structure State.EmitsChecked (s t : State) : Prop where
  full : s.sequenceFull = true
  checked : chk16 s.message = true
  shown : t.trace = s.trace ++ [.telemetry (s.message.take (s.message.length - 2)), .label .completeOk]

/-- R165: COMPLETE is silent, or emits the checked message. -/
theorem State.complete_silent_or_emitsChecked (s : State) : s.Silent s.complete ∨ s.EmitsChecked s.complete := by
  obtain ⟨-, h⟩ | ⟨hfull, hchk, h⟩ | ⟨-, -, h⟩ := s.complete_cases
  · exact .inl (.of_label (by rw [h]; rfl))
  · exact .inr ⟨hfull, hchk, by rw [h]; rfl⟩
  · exact .inl (.of_label (by rw [h]; rfl))

/-- R197: so is POLL, which emits only at `P_COMPLETE`. -/
theorem execPoll_silent_or_emitsChecked {s t : State} (h : execPoll s = .next t) :
    s.Silent t ∨ s.rstep = .pComplete ∧ s.EmitsChecked t := by
  by_cases hr : s.rstep = .pComplete
  · unfold execPoll at h
    simp only [hr] at h
    split at h
    · exact .inl (Result.Silent.unrecorded rfl t h)
    · obtain rfl := Host.Outcome.next.inj h
      obtain hsilent | ⟨hfull, hchk, hshown⟩ := s.complete_silent_or_emitsChecked
      · exact .inl hsilent
      · exact .inr ⟨hr, hfull, hchk, hshown⟩
  · exact .inl (execPoll_silent s hr t h)

/-! ### The machine's step -/

section
variable {s t u : State}

theorem step_silent_of_host_turn (h : s.TakesInput t) (hturn : t.port.turn = .host) : Result.Silent t (step s) := by
  rw [step_of_takesInput h, State.select, hturn]
  dsimp only
  obtain ⟨-, hsel⟩ | ⟨r, rs, -, hcase⟩ := t.selectHost_cases
  · rw [hsel]
    exact .unrecorded rfl
  · obtain ⟨e, -, hsel⟩ | ⟨i, -, -, hsel⟩ | ⟨i, -, hmay, -, hsel⟩ | ⟨i, -, -, -, hsel⟩ := hcase <;> rw [hsel]
    · exact .labelled rfl
    · exact .labelled rfl
    · exact exec_silent_of_hostMay { t with requests := rs } hmay
    · exact .unrecorded rfl

/-- The engine's readings do not depend on what the environment presents. -/
theorem State.TakesInput.emitsChecked (h : s.TakesInput t) (ht : t.EmitsChecked u) : s.EmitsChecked u := by
  rw [State.takesInput_frame h] at ht
  obtain ⟨hfull, hchk, hshown⟩ := ht
  exact ⟨hfull, hchk, hshown⟩

theorem State.TakesInput.silent (h : s.TakesInput t) (ht : t.Silent u) : s.Silent u := by
  rwa [State.takesInput_frame h] at ht

theorem State.TakesInput.rstep_eq (h : s.TakesInput t) : t.rstep = s.rstep := by
  rw [State.takesInput_frame h]

/-- A step is silent, or is the RECEIVER's completion check and emits the checked message. -/
theorem step_silent_or_emitsChecked (hstep : step s = .next u) :
    s.Silent u ∨ s.rstep = .pComplete ∧ s.EmitsChecked u := by
  have h : s.TakesInput s.sample := State.takesInput_iff_sample.mpr rfl
  cases hturn : s.sample.port.turn with
  | sender =>
    rw [step_of_sender_turn h hturn] at hstep
    exact .inl (h.silent (exec_senderOp_silent s s.sample u hstep))
  | receiver =>
    rw [step_of_receiver_turn h hturn] at hstep
    obtain hsilent | ⟨hr, hemits⟩ := execPoll_silent_or_emitsChecked hstep
    · exact .inl (h.silent hsilent)
    · exact .inr ⟨h.rstep_eq ▸ hr, h.emitsChecked hemits⟩
  | host => exact .inl (h.silent (step_silent_of_host_turn h hturn u hstep))

end

/-- Settles O57: a step that is not silent is the completion check, and its one telemetry event is the checked message's. -/
theorem telemetryOnlyForCheckedMessages : Obligations.TelemetryOnlyForCheckedMessages := by
  intro s t hstep
  obtain ⟨new, htrace, hnew⟩ | ⟨hr, hfull, hchk, hshown⟩ := step_silent_or_emitsChecked hstep
  · exact ⟨new, htrace, fun d hd => absurd hd (hnew d)⟩
  · refine ⟨_, hshown, fun d hd => ?_⟩
    obtain rfl : d = s.message.take (s.message.length - 2) := by simpa using hd
    exact ⟨rfl, hr, hfull, hchk, rfl⟩

end Sys2Proof.Machine
end

section
/-! PROOF. R120 to R128, R194, R197, R231: the frame codec and what the RECEIVER does with a raw fragment. ENCODE gives a
wire frame, which is a raw fragment whose body is the payload with its CRC16 field, so what is known of those carries over.
The validation has one rule for each of its four ends. POLL has one rule for each step up to the store, and ARRIVE and
COMPLETE do the same whatever the receive buffer, the RECEIVER's step and the record before them are. -/

namespace Sys2Proof.Machine
open Sys2Proof

/-! ### ENCODE and DECODE -/

/-- ENCODE gives only wire frames, of payloads within `MAX_TX_PAYLOAD`. -/
theorem encodeFrame_eq_ok {c : Params} {type : Byte} {dst src : Word} {fid : Byte} {p f : Bytes}
    (h : encodeFrame c type dst src fid p = .ok f) : p.length ≤ c.maxTxPayload ∧ f = frameBytes type dst src fid p := by
  by_cases hp : p.length ≤ c.maxTxPayload
  · rw [encodeFrame_of_le hp] at h
    exact ⟨hp, (Except.ok.inj h).symm⟩
  · rw [encodeFrame_of_lt (Nat.not_le.mp hp)] at h
    cases h

theorem exec_encode (type : Byte) (dst src : Word) (fid : Byte) (p : Bytes) (s : State) :
    exec (.encode type dst src fid p) s = .next (s.answer ((encodeFrame s.cfg type dst src fid p).map .bytes)) := rfl

/-- Settles O9: ENCODE lays out the frame, or is refused above the bound; the example is a run. -/
theorem encodeEmitsTheWireFrame : Obligations.EncodeEmitsTheWireFrame := by
  refine ⟨fun type dst src fid p s hle => ?_, fun type dst src fid p s hlt => ?_, by decide +kernel⟩
  · rw [exec_encode, encodeFrame_of_le hle, ← crc16Field_eq_ite]
    rfl
  · rw [exec_encode, encodeFrame_of_lt hlt]
    rfl

theorem byte_append_toNat {w : Nat} (x : BitVec w) (b : Byte) : (x ++ b).toNat = x.toNat * 2 ^ 8 + b.toNat :=
  calc
    (x ++ b).toNat = x.toNat <<< 8 ||| b.toNat := BitVec.toNat_append x b
    _ = x.toNat <<< 8 + b.toNat := (Nat.shiftLeft_add_eq_or_of_lt b.isLt _).symm
    _ = x.toNat * 2 ^ 8 + b.toNat := by rw [Nat.shiftLeft_eq]

/-- R50: four bytes read as one number, most significant first. -/
theorem u32_eq_ofNat (b0 b1 b2 b3 : Byte) :
    u32 b0 b1 b2 b3 = BitVec.ofNat 32 (b0.toNat * 2 ^ 24 + b1.toNat * 2 ^ 16 + b2.toNat * 2 ^ 8 + b3.toNat) := by
  have hval : (u32 b0 b1 b2 b3).toNat = b0.toNat * 2 ^ 24 + b1.toNat * 2 ^ 16 + b2.toNat * 2 ^ 8 + b3.toNat := by
    simp only [u32, byte_append_toNat]
    omega
  rw [← hval, BitVec.ofNat_toNat, BitVec.setWidth_eq]

theorem fidIndex_toNat (f : Byte) : (fidIndex f).toNat = f.toNat % 128 := by
  simp [fidIndex]

theorem fidIndex_eq_ofNat (f : Byte) : fidIndex f = BitVec.ofNat 7 (f.toNat % 128) := by
  rw [← fidIndex_toNat, BitVec.ofNat_toNat, BitVec.setWidth_eq]

/-- R123: the body stands between the header and the last byte. -/
theorem decodeFragment_body (raw : Bytes) : (decodeFragment raw).body = (raw.drop 10).take (raw.length - 11) := by
  change (raw.drop 10).take (raw.length - 1 - 10) = _
  rw [Nat.sub_sub]

theorem fragmentLengthOk_iff {c : Params} {n : Nat} : c.fragmentLengthOk n = true ↔ 11 ≤ n ∧ n ≤ c.maxFrameLen := by
  rw [Params.fragmentLengthOk, Bool.and_eq_true, decide_eq_true_eq, decide_eq_true_eq]
  rfl

theorem exec_decode_of_lengthOk {raw : Bytes} {s : State} (h : s.cfg.fragmentLengthOk raw.length = true) :
    exec (.decode raw) s = .next (s.answer (.ok (.fragment (decodeFragment raw)))) := by
  change execDecode raw s = _
  rw [execDecode, if_pos h]

/-- Settles O11: DECODE reads the fields at their offsets; the example is a run. -/
theorem decodeSplitsAtFixedOffsets : Obligations.DecodeSplitsAtFixedOffsets := by
  refine ⟨fun raw s hmin hmax => ?_, by decide +kernel⟩
  rw [exec_decode_of_lengthOk (fragmentLengthOk_iff.mpr ⟨hmin, hmax⟩), ← u32_eq_ofNat, ← u32_eq_ofNat,
    ← fidIndex_eq_ofNat, ← decodeFragment_body]
  rfl

/-! ### The laws of an encoded frame -/

/-- R72: every byte is the frame-id of its LAST bit and its index. -/
theorem exists_eq_fidByte (fid : Byte) : ∃ last index, fid = fidByte last index :=
  ⟨fidLast fid, fidIndex fid, (fidByte_fidLast_fidIndex fid).symm⟩

/-- R70: the last byte of a wire frame is the CRC8 of the others. -/
theorem crc8_take_frameBytes (type : Byte) (dst src : Word) (fid : Byte) (p : Bytes) :
    crc8 ((frameBytes type dst src fid p).take ((frameBytes type dst src fid p).length - 1)) =
      crc8 (headerBytes type dst src fid ++ p ++ crc16Field p) := by
  rw [← List.dropLast_eq_take, frameBytes, sealCrc8, List.dropLast_concat]

/-- R128: DECODE of a wire frame. -/
theorem decodeFragment_frameBytes (type : Byte) (dst src : Word) (fid : Byte) (p : Bytes) :
    decodeFragment (frameBytes type dst src fid p) =
      { type := type, dst := dst, src := src, last := fidLast fid, index := fidIndex fid, body := p ++ crc16Field p,
        crc8 := crc8 ((frameBytes type dst src fid p).take ((frameBytes type dst src fid p).length - 1)) } := by
  obtain ⟨last, index, rfl⟩ := exists_eq_fidByte fid
  rw [crc8_take_frameBytes, frameBytes_eq_fragmentBytes, decodeFragment_fragmentBytes, fidLast_fidByte,
    fidIndex_fidByte, List.append_assoc]

theorem take_ten_frameBytes (type : Byte) (dst src : Word) (fid : Byte) (p : Bytes) :
    (frameBytes type dst src fid p).take 10 = headerBytes type dst src fid := by
  rw [frameBytes, sealCrc8, List.append_assoc, List.append_assoc]
  exact List.take_left' (headerBytes_length type dst src fid)

/-- R122: a wire frame determines its five fields, because the decoder of FRAME reads them back. -/
theorem frameBytes_inj {type type' : Byte} {dst dst' src src' : Word} {fid fid' : Byte} {p p' : Bytes}
    (h : frameBytes type dst src fid p = frameBytes type' dst' src' fid' p') :
    type = type' ∧ dst = dst' ∧ src = src' ∧ fid = fid' ∧ p = p' := by
  obtain ⟨last, index, rfl⟩ := exists_eq_fidByte fid
  obtain ⟨last', index', rfl⟩ := exists_eq_fidByte fid'
  have hdecoded := congrArg decodeFrame h
  rw [decodeFrame_frameBytes, decodeFrame_frameBytes] at hdecoded
  obtain ⟨htype, hdst, hsrc, hlast, hindex, hp⟩ := Instr.frame.inj (Except.ok.inj hdecoded)
  exact ⟨htype, hdst, hsrc, hlast ▸ hindex ▸ rfl, hp⟩

/-- Settles O10: an encoded frame is a wire frame, and the laws are those of its layout. -/
theorem encodedFrameLaws : Obligations.EncodedFrameLaws := by
  refine ⟨fun c type dst src fid p f h => ?_, fun c type type' dst dst' src src' fid fid' p p' f h h' => ?_⟩
  · obtain ⟨-, rfl⟩ := encodeFrame_eq_ok h
    refine ⟨chk8_frameBytes .., ?_, take_ten_frameBytes .., fun hp => ?_⟩
    · rw [Laws.frameBytes_length]
      split
      next => exact .inl rfl
      next hp =>
        have hpos : 0 < p.length := List.length_pos_iff.mpr hp
        exact .inr (by omega)
    · rw [← decodeFragment_body, decodeFragment_frameBytes, crc16Field_of_ne_nil hp]
      exact chk16_append_crc16 p
  · obtain ⟨-, rfl⟩ := encodeFrame_eq_ok h
    obtain ⟨-, hsame⟩ := encodeFrame_eq_ok h'
    exact frameBytes_inj hsame

/-- Settles O12: DECODE of a wire frame, whose CRC16 field is absent exactly for the empty payload. -/
theorem decodeOfEncodedFrame : Obligations.DecodeOfEncodedFrame := by
  intro c type dst src fid p f h
  obtain ⟨-, rfl⟩ := encodeFrame_eq_ok h
  rw [decodeFragment_frameBytes]
  split
  next hp => subst hp; rfl
  next hp => rw [crc16Field_of_ne_nil hp]; rfl

/-! ### The validation (R127, R231): one rule for each of its ends -/

theorem isSlotIndex_iff {i : Nat} : isSlotIndex i = true ↔ 1 ≤ i ∧ i ≤ 15 := by
  rw [isSlotIndex, Bool.and_eq_true, decide_eq_true_eq, decide_eq_true_eq]
  rfl

section
variable {c : Params} {n : Nat} {raw : Bytes}

theorem validate_of_length (hn : c.fragmentLengthOk n = false) : validate c n raw = .error .dropLength := by
  simp [validate, hn]

theorem validate_of_crc8 (hn : c.fragmentLengthOk n = true) (hcrc : chk8 raw = false) :
    validate c n raw = .error .dropCrc8 := by
  simp [validate, hn, hcrc]

theorem validate_of_index (hn : c.fragmentLengthOk n = true) (hcrc : chk8 raw = true)
    (hi : isSlotIndex (decodeFragment raw).index.toNat = false) : validate c n raw = .error .dropIndex := by
  simp [validate, hn, hcrc, hi]

theorem validate_of_passes (hn : c.fragmentLengthOk n = true) (hcrc : chk8 raw = true)
    (hi : isSlotIndex (decodeFragment raw).index.toNat = true) : validate c n raw = .ok (decodeFragment raw) := by
  simp [validate, hn, hcrc, hi]

theorem fragmentLengthOk_of_validate_eq_ok {f : Fragment} (h : validate c n raw = .ok f) :
    c.fragmentLengthOk n = true := by
  by_contra hn
  rw [validate_of_length (Bool.eq_false_of_not_eq_true hn)] at h
  cases h

theorem fragmentLengthOk_eq_false (h : n < 11 ∨ c.maxFrameLen < n) : c.fragmentLengthOk n = false := by
  rw [Bool.eq_false_iff, Ne, fragmentLengthOk_iff]
  omega

theorem decodeFragment_index_toNat : (decodeFragment raw).index.toNat = (raw.getD 9 0).toNat % 128 :=
  fidIndex_toNat _

end

/-! ### The steps of POLL -/

section
variable {s : State} {l : Label} {f : Fragment} {got : Bool}

/-- R197: POLL at the receive-check is its next step, when that is not the last. -/
theorem poll_eq_rxchkStep (hs : s.sstep ≠ .sStartup) (hr : s.rstep = .pRxchk)
    (hx : ∀ got, s.rxPhase ≠ .release got) : exec .poll s = rxchkStep s := by
  change execPoll s = _
  rw [execPoll, if_neg hs]
  simp only [hr]
  split
  next got hgot => exact absurd hgot (hx got)
  next => rfl
  next => rfl
  next => rfl

theorem poll_acquires (hs : s.sstep ≠ .sStartup) (hr : s.rstep = .pRxchk) (hx : s.rxPhase = .idle)
    (hl : s.lock = .free) :
    exec .poll s = .next { s with lock := .receiver, rxPhase := .query, trace := s.trace ++ [.label .ok] } := by
  rw [poll_eq_rxchkStep hs hr (by simp [hx])]
  simp only [hx, rxchkStep, State.acquire_of_free hl]
  rfl

theorem poll_queries (hs : s.sstep ≠ .sStartup) (hr : s.rstep = .pRxchk) (hx : s.rxPhase = .query)
    (ha : s.port.available = true) :
    exec .poll s = .next { s with
      rxPhase := .read, trace := s.trace ++ [.isFragmentAvailable .receiver true] ++ [.label .ok] } := by
  rw [poll_eq_rxchkStep hs hr (by simp [hx])]
  simp only [hx, rxchkStep, ha]
  rfl

theorem poll_reads (hs : s.sstep ≠ .sStartup) (hr : s.rstep = .pRxchk) (hx : s.rxPhase = .read) :
    exec .poll s = .next { s with
      rxbuf := s.port.fragment.take s.cfg.maxFrameLen, rxlen := s.port.fragment.length, rxPhase := .release true,
      trace := s.trace ++ [.readFragment .receiver s.port.fragment] ++ [.label .ok] } := by
  rw [poll_eq_rxchkStep hs hr (by simp [hx])]
  simp only [hx, rxchkStep]
  rfl

theorem poll_releases (hs : s.sstep ≠ .sStartup) (hr : s.rstep = .pRxchk) (hx : s.rxPhase = .release got)
    (hl : s.lock = .receiver) :
    exec .poll s = .next { s with
      lock := .free, rxPhase := .idle, rstep := if got then .pValidate else .pRetry,
      trace := s.trace ++ [.label .ok] } := by
  change execPoll s = _
  simp only [execPoll, if_neg hs, hr, hx, rxchkStep, State.release_of_owner (a := .receiver) hl]
  rfl

theorem poll_drops (hs : s.sstep ≠ .sStartup) (hr : s.rstep = .pValidate)
    (hv : validate s.cfg s.rxlen s.rxbuf = .error l) :
    exec .poll s = .next { s with rstep := .pRetry, trace := s.trace ++ [.label l] } := by
  change execPoll s = _
  simp only [execPoll, if_neg hs, hr, hv]
  rfl

theorem poll_accepts (hs : s.sstep ≠ .sStartup) (hr : s.rstep = .pValidate)
    (hv : validate s.cfg s.rxlen s.rxbuf = .ok f) :
    exec .poll s = .next { s with rstep := .pStore, trace := s.trace ++ [.label .ok] } := by
  change execPoll s = _
  simp only [execPoll, if_neg hs, hr, hv]
  rfl

theorem poll_stores (hs : s.sstep ≠ .sStartup) (hr : s.rstep = .pStore) :
    exec .poll s = .next ((s.arrive (decodeFragment s.rxbuf).index (decodeFragment s.rxbuf).last
      (decodeFragment s.rxbuf).body).resumeAt .pComplete) := by
  change execPoll s = _
  simp only [execPoll, if_neg hs, hr]

theorem poll_completes (hs : s.sstep ≠ .sStartup) (hr : s.rstep = .pComplete) :
    exec .poll s = .next (s.complete.resumeAt .pRetry) := by
  change execPoll s = _
  simp only [execPoll, if_neg hs, hr]

end

/-- Settles O45: each test that fails gives its label, and POLL moves on from `P_VALIDATE` as the validation answers. -/
theorem validationDropsInOrder : Obligations.ValidationDropsInOrder := by
  intro s hs hr
  refine ⟨fun hn => ?_, fun hmin hmax hcrc => ?_, fun hmin hmax hcrc hi => ?_, fun hmin hmax hcrc hlow hhigh => ?_⟩
  · exact poll_drops hs hr (validate_of_length (fragmentLengthOk_eq_false hn))
  · exact poll_drops hs hr (validate_of_crc8 (fragmentLengthOk_iff.mpr ⟨hmin, hmax⟩) hcrc)
  · refine poll_drops hs hr (validate_of_index (fragmentLengthOk_iff.mpr ⟨hmin, hmax⟩) hcrc ?_)
    rw [decodeFragment_index_toNat, Bool.eq_false_iff, Ne, isSlotIndex_iff]
    omega
  · refine poll_accepts hs hr (validate_of_passes (fragmentLengthOk_iff.mpr ⟨hmin, hmax⟩) hcrc ?_)
    rw [decodeFragment_index_toNat, isSlotIndex_iff]
    exact ⟨hlow, hhigh⟩

/-! ### Reading, validating, storing and completing in a row -/

/-- `s` with the RECEIVER at a given step, given contents of its receive buffer, and `earlier` recorded before everything
in the record. -/
def State.receiving (s : State) (buffer : Bytes) (length : Nat) (r : RStep) (earlier : List Event) : State :=
  { s with rxbuf := buffer, rxlen := length, rstep := r, trace := earlier ++ s.trace }

section
variable (s : State) (b : Bytes) (n : Nat) (r : RStep) (earlier : List Event)

theorem State.eq_receiving :
    { s with rxbuf := b, rxlen := n, rstep := r, trace := earlier } =
      ({ s with trace := [] } : State).receiving b n r earlier := by
  simp [State.receiving]

theorem State.emit_receiving (es : List Event) :
    (s.receiving b n r earlier).emit es = (s.emit es).receiving b n r earlier := by
  simp [State.receiving, State.emit]

/-- R161: ARRIVE reads nothing of the receive buffer, the RECEIVER's step and the record, and only adds to the record. -/
theorem State.arrive_receiving (index : BitVec 7) (last : Bool) (body : Bytes) :
    (s.receiving b n r earlier).arrive index last body = (s.arrive index last body).receiving b n r earlier := by
  have hbegin : (s.receiving b n r earlier).beginSequence = s.beginSequence.receiving b n r earlier := by
    unfold State.beginSequence
    rw [apply_ite (State.receiving · b n r earlier)]
    rfl
  have hat : (s.receiving b n r earlier).arriveAt index.toNat last body =
      (s.arriveAt index.toNat last body).receiving b n r earlier := by
    unfold State.arriveAt
    rw [hbegin]
    rfl
  unfold State.arrive State.raise
  rw [hat, State.emit_receiving, State.emit_receiving, State.emit_receiving,
    apply_ite (State.receiving · b n r earlier), apply_ite (State.receiving · b n r earlier)]
  rfl

/-- R165: nor does COMPLETE. -/
theorem State.complete_receiving :
    (s.receiving b n r earlier).complete = s.complete.receiving b n r earlier := by
  have hreset : (s.receiving b n r earlier).resetbuf = s.resetbuf.receiving b n r earlier := rfl
  unfold State.complete State.raise
  rw [hreset, State.emit_receiving, State.emit_receiving, State.emit_receiving,
    apply_ite (State.receiving · b n r earlier), apply_ite (State.receiving · b n r earlier)]
  rfl

end

theorem execTimes_succ_of_next {i : Instr} {s t : State} {n : Nat} (h : exec i s = .next t) :
    execTimes (n + 1) i s = execTimes n i t := by
  simp only [execTimes, h]

section
variable {s : State}

/-- R127, R194: with the lock free, five steps of POLL bring an available fragment that passes the validation to
`P_STORE`, and the lock and the receive-check are as they were. -/
theorem execTimes_poll_receives {f : Fragment} (hs : s.sstep ≠ .sStartup) (hr : s.rstep = .pRxchk)
    (hx : s.rxPhase = .idle) (hl : s.lock = .free) (ha : s.port.available = true)
    (hv : validate s.cfg s.port.fragment.length s.port.fragment = .ok f) (n : Nat) :
    execTimes (n + 5) .poll s = execTimes n .poll { s with
      rxbuf := s.port.fragment, rxlen := s.port.fragment.length, rstep := .pStore,
      trace := s.trace ++ [.label .ok, .isFragmentAvailable .receiver true, .label .ok,
        .readFragment .receiver s.port.fragment, .label .ok, .label .ok, .label .ok] } := by
  have hfits : s.port.fragment.take s.cfg.maxFrameLen = s.port.fragment :=
    List.take_of_length_le (fragmentLengthOk_iff.mp (fragmentLengthOk_of_validate_eq_ok hv)).2
  refine Eq.trans (execTimes_succ_of_next (poll_acquires hs hr hx hl)) ?_
  refine Eq.trans (execTimes_succ_of_next (poll_queries hs hr rfl ha)) ?_
  refine Eq.trans (execTimes_succ_of_next (poll_reads hs hr rfl)) ?_
  refine Eq.trans (execTimes_succ_of_next (poll_releases hs hr rfl rfl)) ?_
  rw [hfits]
  refine Eq.trans (execTimes_succ_of_next (poll_accepts hs rfl hv)) ?_
  simp [hx, hl]

/-- R197: two more steps are ARRIVE of what is in the buffer, and COMPLETE. -/
theorem execTimes_poll_stores_completes (hs : s.sstep ≠ .sStartup) (b : Bytes) (n : Nat) (earlier : List Event) :
    execTimes 2 .poll (s.receiving b n .pStore earlier) =
      .next ((s.arrive (decodeFragment b).index (decodeFragment b).last (decodeFragment b).body).complete.receiving
        b n .pRetry earlier) := by
  have hstarted := (s.arrive_quiet (decodeFragment b).index (decodeFragment b).last (decodeFragment b).body).started hs
  have hstore : exec .poll (s.receiving b n .pStore earlier) =
      .next ((s.arrive (decodeFragment b).index (decodeFragment b).last (decodeFragment b).body).receiving
        b n .pComplete earlier) := by
    refine Eq.trans (poll_stores hs rfl) ?_
    rw [State.arrive_receiving]
    rfl
  rw [execTimes_succ_of_next hstore]
  refine Eq.trans (execTimes_succ_of_next (poll_completes hstarted rfl)) ?_
  rw [State.complete_receiving]
  rfl

/-- ARRIVE and COMPLETE do in `s` what they do with an empty record, behind the record of `s`. -/
theorem State.complete_arrive_eq_receiving (s : State) (index : BitVec 7) (last : Bool) (body : Bytes) :
    (s.arrive index last body).complete =
      (({ s with trace := [] } : State).arrive index last body).complete.receiving s.rxbuf s.rxlen s.rstep s.trace := by
  have hself : s = ({ s with trace := [] } : State).receiving s.rxbuf s.rxlen s.rstep s.trace :=
    s.eq_receiving s.rxbuf s.rxlen s.rstep s.trace
  conv_lhs => rw [hself, State.arrive_receiving, State.complete_receiving]

end

/-- Settles O46: what ARRIVE and COMPLETE do after an empty record stands behind the record of `s` alone in `t`, and behind
that of the receive-check and the validation in POLL's state. -/
theorem pollTickStoresAndCompletes : Obligations.PollTickStoresAndCompletes := by
  intro s t hs hr hx hl ha hv hrun
  obtain ⟨f, hf⟩ : ∃ f, validate s.cfg s.port.fragment.length s.port.fragment = .ok f := by
    cases hval : validate s.cfg s.port.fragment.length s.port.fragment with
    | ok f => exact ⟨f, rfl⟩
    | error l => rw [hval] at hv; cases hv
  obtain rfl := Host.Outcome.next.inj hrun
  rw [execTimes_poll_receives hs hr hx hl ha hf 2, State.eq_receiving, State.complete_arrive_eq_receiving]
  exact ⟨_, rfl, execTimes_poll_stores_completes (s := { s with trace := [] }) hs _ _ _⟩

end Sys2Proof.Machine
end

section
/-! PROOF. R84, R140 to R155: the command payloads and their frames. An operand of BUILD_CONTROL fits its 16-bit field or
does not; one rule each says what is built then, and with it an operation whose opcode is fixed is settled, whichever of
the ten. PLIMIT is such an operation with its operands computed; CMDFRAME is ENCODE with the addresses of the
configuration. -/

namespace Sys2Proof.Machine
open Sys2Proof

/-! ### The answer to the caller -/

/-- A builder's payload goes to the caller. -/
theorem State.answer_of_built {r : Except Label Bytes} {b : Bytes} (h : r = .ok b) (s : State) :
    s.answer (r.map .bytes) = { s with trace := s.trace ++ [.returned (.bytes b), .label .ok] } := by
  subst h
  rfl

/-- A builder's refusal leaves its label and nothing else. -/
theorem State.answer_of_refused {r : Except Label Bytes} {l : Label} (h : r = .error l) (s : State) :
    s.answer (r.map .bytes) = { s with trace := s.trace ++ [.label l] } := by
  subst h
  rfl

/-! ### BUILD_CONTROL with a named opcode -/

theorem fitHalf_of_lt {n : Nat} (h : n < 2 ^ 16) : fitHalf n = some (BitVec.ofNat 16 n) := if_pos h

theorem fitHalf_of_le {n : Nat} (h : 2 ^ 16 ≤ n) : fitHalf n = none := if_neg (Nat.not_lt.mpr h)

theorem fitData_some_of_lt {d : Nat} (h : d < 2 ^ 16) : fitData (some d) = some (some (BitVec.ofNat 16 d)) := by
  rw [fitData, fitHalf_of_lt h, Option.map_some]

theorem fitData_some_of_le {d : Nat} (h : 2 ^ 16 ≤ d) : fitData (some d) = none := by
  rw [fitData, fitHalf_of_le h, Option.map_none]

/-- R140: without data the payload is the opcode. -/
theorem buildControlOp_bare (op : ControlOp) {m : Nat} (hm : m < 2 ^ 16) :
    buildControlOp op none m = .ok (be16 op.code) := by
  rw [buildControlOp, fitHalf_of_lt hm]
  rfl

/-- R140: with data the payload is opcode, data and modifier. -/
theorem buildControlOp_data (op : ControlOp) {d m : Nat} (hd : d < 2 ^ 16) (hm : m < 2 ^ 16) :
    buildControlOp op (some d) m =
      .ok (be16 op.code ++ be16 (BitVec.ofNat 16 d) ++ be16 (BitVec.ofNat 16 m)) := by
  rw [buildControlOp, fitData_some_of_lt hd, fitHalf_of_lt hm]
  rfl

/-- R140, D21: an operand that does not fit its field is refused, also the modifier of the bare form (assumption log 9). -/
theorem buildControlOp_refuses (op : ControlOp) {data : Option Nat} {m : Nat}
    (h : 2 ^ 16 ≤ m ∨ ∃ d, data = some d ∧ 2 ^ 16 ≤ d) : buildControlOp op data m = .error .refuseBadOperand := by
  obtain hm | ⟨d, rfl, hd⟩ := h
  · rw [buildControlOp, fitHalf_of_le hm]
    cases fitData data <;> rfl
  · rw [buildControlOp, fitData_some_of_le hd]

/-- An operation that answers BUILD_CONTROL's result for one opcode meets that result's rule. -/
theorem controlResult_of_exec_eq {mk : Option Nat → Nat → Instr} {op : ControlOp} {s : State}
    (h : ∀ data m, exec (mk data m) s = .next (s.answer ((buildControlOp op data m).map .bytes))) :
    controlResult mk op.code s := by
  refine ⟨fun m hm => ?_, fun d m hd hm => ?_, fun data m hbad => ?_⟩
  · rw [h, State.answer_of_built (buildControlOp_bare op hm)]
  · rw [h, State.answer_of_built (buildControlOp_data op hd hm)]
  · rw [h, State.answer_of_refused (buildControlOp_refuses op hbad)]

/-- R141 to R150: the operation of each opcode builds for it. -/
theorem controlResult_ctrlInstr (op : ControlOp) (s : State) : controlResult (ctrlInstr op) op.code s :=
  controlResult_of_exec_eq fun data m => by cases op <;> rfl

/-- Settles O13: the ten operations are those of the ten opcodes; the fixed values are runs. -/
theorem controlCommandsBuildTheirPayloads : Obligations.ControlCommandsBuildTheirPayloads := by
  intro s
  refine ⟨controlResult_ctrlInstr .on s, controlResult_ctrlInstr .off s, controlResult_ctrlInstr .restoreLastAction s,
    controlResult_ctrlInstr .lock s, controlResult_ctrlInstr .unlock s, controlResult_ctrlInstr .activePowerLimit s,
    controlResult_ctrlInstr .reactivePowerLimit s, controlResult_ctrlInstr .powerFactor s,
    controlResult_ctrlInstr .lockAndAlarm s, controlResult_ctrlInstr .selfInspect s, ?_⟩
  decide +kernel

/-! ### BUILD_CONTROL with an opcode given by number -/

theorem exec_buildControl (n : Nat) (data : Option Nat) (m : Nat) (s : State) :
    exec (.buildControl n data m) s = .next (s.answer ((buildControl n data m).map .bytes)) := rfl

theorem buildControl_code (op : ControlOp) (data : Option Nat) (m : Nat) :
    buildControl op.code.toNat data m = buildControlOp op data m := by
  rw [buildControl, ofCode_eq_some_iff.mpr rfl]

/-- R86, R140: a reserved number is refused, whatever the operands. -/
theorem buildControl_reserved {n : Nat} (h : n ∉ [0, 1, 2, 3, 4, 11, 12, 13, 20, 40]) (data : Option Nat) (m : Nat) :
    buildControl n data m = .error .refuseBadOpcode := by
  rw [buildControl, ofCode_eq_none h]

theorem exec_buildControl_reserved {n : Nat} (h : n ∉ [0, 1, 2, 3, 4, 11, 12, 13, 20, 40]) (data : Option Nat) (m : Nat)
    (s : State) :
    exec (.buildControl n data m) s = .next { s with trace := s.trace ++ [.label .refuseBadOpcode] } := by
  rw [exec_buildControl, State.answer_of_refused (buildControl_reserved h data m)]

/-- Settles O14: the number of an opcode names it, every other number is reserved. -/
theorem buildControlByNumber : Obligations.BuildControlByNumber := by
  refine ⟨fun op s => ?_, fun n data m s hn _ _ => exec_buildControl_reserved hn data m s, by decide⟩
  exact controlResult_of_exec_eq fun data m => by rw [exec_buildControl, buildControl_code]

/-! ### PLIMIT -/

theorem limitData_of_le {n : Nat} (h : n ≤ 3276) : limitData n = some (n * 20) := if_pos h

theorem limitData_of_lt {n : Nat} (h : 3276 < n) : limitData n = none := if_neg (Nat.not_le.mpr h)

/-- R82: the modifier fits its field, whichever of its two bits are set. -/
theorem limitModifier_lt (relative persist : Bool) : limitModifier relative persist < 2 ^ 16 := by
  cases relative <;> cases persist <;> decide

theorem ofNat_limitModifier (relative persist : Bool) :
    BitVec.ofNat 16 (limitModifier relative persist) =
      (if persist then 0x0100#16 else 0#16) ||| (if relative then 0x0001#16 else 0#16) := by
  cases relative <;> cases persist <;> rfl

/-- R151: up to 3276 the product with 20 fits 16 bits, and the command is ACTIVE_POWER_LIMIT with data. -/
theorem plimit_of_le {n : Nat} (h : n ≤ 3276) (relative persist : Bool) :
    plimit n relative persist = .ok ([0x00, 0x0B] ++ be16 (BitVec.ofNat 16 (n * 20)) ++
      be16 ((if persist then 0x0100#16 else 0#16) ||| (if relative then 0x0001#16 else 0#16))) := by
  have hdata : n * 20 < 2 ^ 16 := by omega
  have hopcode : be16 ControlOp.activePowerLimit.code = [0x00, 0x0B] := rfl
  rw [plimit, limitData_of_le h, ← ofNat_limitModifier, ← hopcode]
  exact buildControlOp_data .activePowerLimit hdata (limitModifier_lt relative persist)

theorem plimit_of_lt {n : Nat} (h : 3276 < n) (relative persist : Bool) :
    plimit n relative persist = .error .refuseBadOperand := by
  rw [plimit, limitData_of_lt h]

theorem exec_plimit (n : Nat) (relative persist : Bool) (s : State) :
    exec (.plimit n relative persist) s = .next (s.answer ((plimit n relative persist).map .bytes)) := rfl

/-- Settles O15: the limit bounds the data field, the modifier always fits. -/
theorem powerLimitPayload : Obligations.PowerLimitPayload := by
  refine ⟨fun n relative persist s hle => ?_, fun n relative persist s hlt => ?_, by decide, by decide⟩
  · rw [exec_plimit, State.answer_of_built (plimit_of_le hle relative persist)]
  · rw [exec_plimit, State.answer_of_refused (plimit_of_lt hlt relative persist)]

/-! ### TSYNC and REQ -/

theorem exec_tsync (u : Word) (s : State) :
    exec (.tsync u) s = .next { s with trace := s.trace ++ [.returned (.bytes (tsync u)), .label .ok] } := rfl

theorem exec_req (s : State) :
    exec .req s = .next { s with trace := s.trace ++ [.returned (.bytes []), .label .ok] } := rfl

/-- R152: the thirteen bytes, the count of seconds high byte first between its markers. -/
theorem tsync_eq (u : Word) :
    tsync u = [0x0B, 0x00, u.extractLsb' 24 8, u.extractLsb' 16 8, u.extractLsb' 8 8, u.extractLsb' 0 8,
      0x00, 0x00, 0x00, 0x05, 0x00, 0x00, 0x00] := rfl

/-- Settles O16: the layouts of the two payloads; the CRC16 and the frame are runs. -/
theorem timeSyncAndRequestPayloads : Obligations.TimeSyncAndRequestPayloads := by
  refine ⟨fun u s => ?_, exec_req, by decide +kernel, by decide +kernel⟩
  rw [exec_tsync, tsync_eq]

/-! ### CMDFRAME -/

theorem exec_cmdframe (kind : CmdFrame) (s : State) :
    exec (.cmdframe kind) s = .next (s.answer ((commandFrame s.cfg kind).map .bytes)) := rfl

/-- R155: a command goes out from `LOCAL_ADDR` to `PEER_ADDR` under its type and the frame-id of a command. -/
theorem commandFrame_control (c : Params) (p : Bytes) :
    commandFrame c (.control p) = encodeFrame c c.typeControl c.peerAddr c.localAddr 0x81 p := rfl

theorem commandFrame_timesync (c : Params) (p : Bytes) :
    commandFrame c (.timesync p) = encodeFrame c c.typeTimesync c.peerAddr c.localAddr 0x81 p := rfl

/-- R84: a re-request carries its index and no payload, so it is never too long. -/
theorem commandFrame_rerequest (c : Params) (k : Byte) :
    commandFrame c (.rerequest k) = .ok (frameBytes c.typeRerequest c.peerAddr c.localAddr k []) :=
  encodeFrame_of_le (Nat.zero_le _) c.typeRerequest c.peerAddr c.localAddr k

/-- Settles O17: each kind is ENCODE with the configuration's type and addresses, on either side of the bound. -/
theorem commandFramesCarryTheConfiguration : Obligations.CommandFramesCarryTheConfiguration := by
  refine ⟨fun p s hle => ⟨?_, ?_⟩, fun k s => ?_, fun p s hlt => ⟨?_, ?_⟩⟩
  · rw [exec_cmdframe, commandFrame_control, State.answer_of_built (encodeFrame_of_le hle ..)]
  · rw [exec_cmdframe, commandFrame_timesync, State.answer_of_built (encodeFrame_of_le hle ..)]
  · rw [exec_cmdframe, State.answer_of_built (commandFrame_rerequest s.cfg k)]
  · rw [exec_cmdframe, commandFrame_control, State.answer_of_refused (encodeFrame_of_lt hlt ..)]
  · rw [exec_cmdframe, commandFrame_timesync, State.answer_of_refused (encodeFrame_of_lt hlt ..)]

end Sys2Proof.Machine
end

section
/-! PROOF. R35, R59, R160 to R168: the reassembly engine. What the slots hold and which are present after a store, after
RESETBUF and after ARRIVE, and when the completion check and TICK find an index missing. The statements about single
operations follow from these. -/

namespace Sys2Proof.Machine
open Sys2Proof

/-! ### Slots and presence after a store (R35, R59) -/

/-- Of 15 entries, numbered from 1, one is set: the reading at an index that exists. -/
theorem getD_setIfInBounds_slot {α : Type} (v : Vector α 15) {i j : Nat} (hi : 1 ≤ i ∧ i ≤ 15) (hj : 1 ≤ j) (x d : α) :
    ((v.setIfInBounds (i - 1) x)[j - 1]?).getD d = if j = i then x else (v[j - 1]?).getD d := by
  obtain ⟨hi1, hi15⟩ := hi
  rw [Vector.getElem?_setIfInBounds]
  by_cases hji : j = i
  · subst hji
    rw [if_pos rfl, if_pos rfl, if_pos (by omega), Option.getD_some]
  · rw [if_neg (by omega), if_neg hji]

/-- An index that names no slot is never present. -/
theorem State.isPresent_of_not_slot (s : State) {j : Nat} (hj : isSlotIndex j = false) : s.isPresent j = false := by
  rw [State.isPresent, hj, Bool.false_and]

/-- A slot's length is a reading of the length registers alone. -/
theorem State.slotLength_congr {s t : State} (h : t.slotLen = s.slotLen) (j : Nat) :
    t.slotLength j = s.slotLength j := by
  rw [State.slotLength, h, State.slotLength]

/-- With all presence bits clear no slot is present. -/
theorem State.isPresent_of_cleared {s : State} (h : s.present = Vector.replicate 15 false) (j : Nat) :
    s.isPresent j = false := by
  rw [State.isPresent, h, Vector.getElem?_replicate]
  split <;> simp

section
variable (s : State) {i j : Nat} (b : Bytes)

theorem State.isPresent_storeSlot (hi : isSlotIndex i = true) :
    (s.storeSlot i b).isPresent j = (decide (j = i) || s.isPresent j) := by
  cases hj : isSlotIndex j with
  | false =>
    have hji : j ≠ i := by
      rintro rfl
      rw [hi] at hj
      cases hj
    rw [State.isPresent_of_not_slot _ hj, State.isPresent_of_not_slot _ hj, decide_eq_false hji, Bool.false_or]
  | true =>
    simp only [State.isPresent, hj, Bool.true_and, State.storeSlot_present,
      getD_setIfInBounds_slot _ (isSlotIndex_iff.mp hi) (isSlotIndex_iff.mp hj).1]
    by_cases hji : j = i <;> simp [hji]

theorem State.slotLength_storeSlot_same (hi : isSlotIndex i = true) : (s.storeSlot i b).slotLength i = b.length := by
  rw [State.slotLength, if_pos hi, State.storeSlot_slotLen,
    getD_setIfInBounds_slot _ (isSlotIndex_iff.mp hi) (isSlotIndex_iff.mp hi).1, if_pos rfl]

theorem State.slotLength_storeSlot_other (hi : isSlotIndex i = true) (hji : j ≠ i) :
    (s.storeSlot i b).slotLength j = s.slotLength j := by
  unfold State.slotLength
  split
  next hj =>
    rw [State.storeSlot_slotLen, getD_setIfInBounds_slot _ (isSlotIndex_iff.mp hi) (isSlotIndex_iff.mp hj).1,
      if_neg hji]
  next => rfl

variable {s}

theorem State.slotBytes_storeSlot_same (hi : isSlotIndex i = true) (hm : s.slotData.wf) :
    (s.storeSlot i b).slotBytes i = b := by
  rw [State.slotBytes, s.slotLength_storeSlot_same b hi, State.storeSlot_slotData]
  exact Memory.readSlot_writeSlot_same hm (Nat.lt_succ_of_le (isSlotIndex_iff.mp hi).2) 0 b

theorem State.slotBytes_storeSlot_other (hi : isSlotIndex i = true) (hm : s.slotData.wf) (hji : j ≠ i) :
    (s.storeSlot i b).slotBytes j = s.slotBytes j := by
  rw [State.slotBytes, State.slotBytes, s.slotLength_storeSlot_other b hi hji, State.storeSlot_slotData]
  cases hj : isSlotIndex j with
  | true =>
    exact Memory.readSlot_writeSlot_other hm (Nat.lt_succ_of_le (isSlotIndex_iff.mp hi).2)
      (Nat.lt_succ_of_le (isSlotIndex_iff.mp hj).2) hji.symm 0 0 _ b
  | false => rw [State.slotLength, hj, if_neg Bool.false_ne_true]; rfl

end

/-- `MemWrite` touches the bytes it names and no other key. -/
theorem Memory.read_writeSlot_of_ne {m : Memory} (hm : m.wf) {i o k : Nat} {b : Bytes}
    (hk : ∀ p, p < b.length → k ≠ slotKey i (o + p)) : (m.writeSlot i o b).read k = m.read k := by
  induction b generalizing m o with
  | nil => rfl
  | cons x b ih =>
    have hfirst : k ≠ slotKey i o := hk 0 (Nat.succ_pos _)
    have hrest : ∀ p, p < b.length → k ≠ slotKey i (o + 1 + p) := fun p hp => by
      rw [Nat.add_assoc, Nat.add_comm 1 p]
      exact hk (p + 1) (Nat.succ_lt_succ hp)
    rw [Memory.writeSlot, ih (Memory.write_wf hm _ _) hrest, Memory.read_write hm, if_neg hfirst.symm]

/-! ### ARRIVE (R161 to R164) -/

section
variable (s : State)

/-- In COLLECTING, ARRIVE goes on with the sequence; in IDLE with an empty one. -/
theorem State.isPresent_beginSequence (j : Nat) :
    s.beginSequence.isPresent j = (decide (s.expectedCount ≠ 0) && s.isPresent j) := by
  unfold State.beginSequence
  split
  next h => simp [h, State.isPresent_of_cleared s.resetbuf_present j]
  next h => rw [decide_eq_true h, Bool.true_and]

@[simp] theorem State.beginSequence_expectedCount : s.beginSequence.expectedCount = s.expectedCount := by
  unfold State.beginSequence
  split
  next h => exact h.symm
  next => rfl

theorem State.beginSequence_retry : s.beginSequence.retry = if s.expectedCount = 0 then 0 else s.retry :=
  apply_ite State.retry _ _ _

@[simp] theorem State.beginSequence_slotLen : s.beginSequence.slotLen = s.slotLen := by
  unfold State.beginSequence
  split <;> rfl

@[simp] theorem State.beginSequence_slotData : s.beginSequence.slotData = s.slotData := by
  unfold State.beginSequence
  split <;> rfl

end

/-- R163, R164: the last fragment fixes the count; any other one asks for one more than its index. -/
theorem nextExpected_toNat (e : BitVec 5) {i : Nat} (hi : i ≤ 15) (last : Bool) :
    (nextExpected e i last).toNat = if last then i else max (i + 1) e.toNat := by
  unfold nextExpected
  split
  next => rw [BitVec.toNat_ofNat]; omega
  next =>
    split
    next h => rw [BitVec.toNat_ofNat]; omega
    next h => omega

section
variable {s : State} {index : BitVec 7} {last : Bool} {body : Bytes}

theorem exec_arrive_of_fits (hi : isSlotIndex index.toNat = true) (hb : body.length ≤ s.cfg.slotCap) :
    exec (.arrive index last body) s = .next ((s.arriveAt index.toNat last body).raise .ok) := by
  obtain ⟨hno, -⟩ | ⟨-, hlong, -⟩ | ⟨-, -, h⟩ := s.arrive_cases index last body
  · rw [hi] at hno
    cases hno
  · omega
  · exact congrArg Host.Outcome.next h

end

section
variable (s : State) (i : Nat) (last : Bool) (body : Bytes)

@[simp] theorem State.arriveAt_slotLength (j : Nat) :
    (s.arriveAt i last body).slotLength j = (s.beginSequence.storeSlot i body).slotLength j := rfl
@[simp] theorem State.arriveAt_slotBytes (j : Nat) :
    (s.arriveAt i last body).slotBytes j = (s.beginSequence.storeSlot i body).slotBytes j := rfl
@[simp] theorem State.arriveAt_slotData : (s.arriveAt i last body).slotData = s.slotData.writeSlot i 0 body := by
  rw [← s.beginSequence_slotData]
  rfl
@[simp] theorem State.arriveAt_expectedCount :
    (s.arriveAt i last body).expectedCount = nextExpected s.expectedCount i last := by
  rw [← s.beginSequence_expectedCount]
  rfl
@[simp] theorem State.arriveAt_retry : (s.arriveAt i last body).retry = if s.expectedCount = 0 then 0 else s.retry :=
  s.beginSequence_retry

@[simp] theorem State.arriveAt_lastActivity : (s.arriveAt i last body).lastActivity = s.port.now := by
  unfold State.arriveAt State.beginSequence
  split <;> rfl

/-- R161: ARRIVE writes the engine's registers, the slots, and the stamp. -/
theorem State.arriveAt_eq : s.arriveAt i last body = { s with
    present := (s.arriveAt i last body).present, slotLen := (s.arriveAt i last body).slotLen
    slotData := (s.arriveAt i last body).slotData, expectedCount := (s.arriveAt i last body).expectedCount
    retry := (s.arriveAt i last body).retry, lastActivity := (s.arriveAt i last body).lastActivity } := by
  unfold State.arriveAt State.beginSequence
  split <;> rfl

variable {i} (hi : isSlotIndex i = true)
include hi

theorem State.isPresent_arriveAt (j : Nat) : (s.arriveAt i last body).isPresent j =
    (decide (j = i) || (decide (s.expectedCount ≠ 0) && s.isPresent j)) := by
  rw [← s.isPresent_beginSequence]
  exact s.beginSequence.isPresent_storeSlot body hi

end

/-- Settles O26: each clause is the store's, at the slot or away from it, after the sequence has begun. -/
theorem arriveStoresAndUpdates : Obligations.ArriveStoresAndUpdates := by
  intro index last body s hmin hmax hfits hm
  have hi : isSlotIndex index.toNat = true := isSlotIndex_iff.mpr ⟨hmin, hmax⟩
  have hmb : s.beginSequence.slotData.wf := by rwa [s.beginSequence_slotData]
  refine ⟨_, exec_arrive_of_fits hi hfits, s.isPresent_arriveAt last body hi, ?_, ?_, fun j hj => ⟨?_, ?_⟩,
    fun k hk => ?_, ?_, ?_, s.arriveAt_retry index.toNat last body,
    s.arriveAt_lastActivity index.toNat last body, ?_⟩
  · exact State.slotBytes_storeSlot_same body hi hmb
  · exact State.slotLength_storeSlot_same _ body hi
  · exact (State.slotLength_storeSlot_other _ body hi hj).trans (State.slotLength_congr s.beginSequence_slotLen j)
  · exact (State.slotBytes_storeSlot_other body hi hmb hj).trans
      (State.slotBytes_congr s.beginSequence_slotLen s.beginSequence_slotData j)
  · rw [State.raise_slotData, s.arriveAt_slotData]
    exact Memory.read_writeSlot_of_ne hm fun p hp => by rw [Nat.zero_add]; exact hk p hp
  · rintro rfl
    rw [State.raise_expectedCount, s.arriveAt_expectedCount, nextExpected_toNat _ hmax, if_pos rfl]
  · rintro rfl
    rw [State.raise_expectedCount, s.arriveAt_expectedCount, nextExpected_toNat _ hmax, if_neg Bool.false_ne_true]
  · exact congrArg (State.raise · .ok) (s.arriveAt_eq index.toNat last body)

/-! ### COMPLETE and TICK (R164 to R168) -/

section
variable {s : State}

theorem State.sequenceFull_iff : s.sequenceFull = true ↔
    0 < s.expectedCount.toNat ∧ s.expectedCount.toNat ≤ 15 ∧
      ∀ i, 1 ≤ i → i ≤ s.expectedCount.toNat → s.isPresent i = true := by
  simp only [State.sequenceFull, Bool.and_eq_true, decide_eq_true_eq, List.all_eq_true, List.mem_range'_1, and_assoc,
    and_imp, Nat.lt_one_add_iff]
  rfl

/-- R164, R167: the lowest missing index; 16 has no slot and counts as missing. -/
theorem State.lowestMissing_eq_some {i : Nat} : s.lowestMissing = some i ↔
    (1 ≤ i ∧ i ≤ s.expectedCount.toNat) ∧ (i = 16 ∨ s.isPresent i = false) ∧
      ∀ j, 1 ≤ j → j < i → j ≠ 16 ∧ s.isPresent j = true := by
  rw [State.lowestMissing, List.find?_range'_eq_some, and_left_comm]
  simp only [List.mem_range'_1, Nat.lt_one_add_iff, Bool.or_eq_true, decide_eq_true_eq, Bool.not_eq_true',
    Bool.or_eq_false_iff, decide_eq_false_iff_not, Bool.not_eq_false']

theorem State.lowestMissing_isSome : s.lowestMissing.isSome = true ↔
    ∃ i, 1 ≤ i ∧ i ≤ s.expectedCount.toNat ∧ (i = 16 ∨ s.isPresent i = false) := by
  simp only [State.lowestMissing, List.find?_isSome, List.mem_range'_1, Nat.lt_one_add_iff, Bool.or_eq_true,
    decide_eq_true_eq, Bool.not_eq_true', and_assoc]

theorem State.timedOut_iff : s.timedOut = true ↔ s.expectedCount ≠ 0 ∧ 100 < (s.port.now - s.lastActivity).toNat := by
  simp only [State.timedOut, Bool.and_eq_true, decide_eq_true_eq]
  rfl

theorem State.chosenIndex_of_lowestMissing {i : Nat} (h : s.lowestMissing = some i) :
    s.chosenIndex = BitVec.ofNat 5 i := by
  simp only [State.chosenIndex, h]

theorem State.tick_of_not_timedOut (h : s.timedOut = false) : s.tick = s.raise .ok := by
  obtain ⟨-, -, ht⟩ | ⟨-, hout, -⟩ | ⟨-, hout, -⟩ := s.tick_cases
  · exact ht
  · simp [h] at hout
  · simp [h] at hout

theorem State.tick_of_spent (h : s.timedOut = true) (hr : 5 < (s.retry + 1).toNat) : s.tick = s.abandon := by
  obtain ⟨-, hout, -⟩ | ⟨-, -, -, ht⟩ | ⟨-, -, hle, -⟩ := s.tick_cases
  · simp [h] at hout
  · exact ht
  · exact absurd hr (Nat.not_lt.mpr hle)

theorem State.tick_of_not_spent (h : s.timedOut = true) (hr : (s.retry + 1).toNat ≤ 5) : s.tick = s.decideRereq := by
  obtain ⟨-, hout, -⟩ | ⟨-, -, hlt, -⟩ | ⟨-, -, -, ht⟩ := s.tick_cases
  · simp [h] at hout
  · exact absurd hr (Nat.not_le.mpr hlt)
  · exact ht

end

/-- Settles O25: RESETBUF writes three registers. -/
theorem resetbufClears : Obligations.ResetbufClears := fun _ => rfl

/-- R165: the record of the message, or of its drop. -/
def completionEvents (m : Bytes) : List Event :=
  if chk16 m then [.telemetry (m.take (m.length - 2)), .label .completeOk] else [.label .dropCrc16]

theorem State.complete_of_full {s : State} (h : s.sequenceFull = true) :
    s.complete = s.resetbuf.emit (completionEvents s.message) := by
  rw [State.complete, if_pos h, completionEvents, apply_ite s.resetbuf.emit]
  rfl

theorem State.complete_of_not_full {s : State} (h : ¬ s.sequenceFull = true) : s.complete = s.raise .ok := if_neg h

/-- Settles O27: a full sequence is emitted or dropped by its CHK16; any other is left. -/
theorem completeAssemblesInIndexOrder : Obligations.CompleteAssemblesInIndexOrder := by
  intro s m hm
  have hmessage : s.message = m := hm.symm
  rw [← State.sequenceFull_iff]
  refine ⟨fun hfull => ⟨fun hc => ?_, fun hc => ?_⟩,
    fun hfull => congrArg Host.Outcome.next (State.complete_of_not_full hfull)⟩
  all_goals
    change Host.Outcome.next s.complete = _
    rw [State.complete_of_full hfull, hmessage, completionEvents, hc]
    rfl

/-- Settles O28: TICK's three outcomes, and the index it picks. -/
theorem tickTimesOutRerequestsAbandons : Obligations.TickTimesOutRerequestsAbandons := by
  intro s
  refine ⟨fun hnot => congrArg Host.Outcome.next (State.tick_of_not_timedOut ?_), fun he ht hr => ?_,
    fun he ht hr => ?_⟩
  · rw [Bool.eq_false_iff, Ne, State.timedOut_iff]
    rintro ⟨he, ht⟩
    exact hnot.elim he (Nat.not_le.mpr ht)
  · exact congrArg Host.Outcome.next (State.tick_of_spent (State.timedOut_iff.mpr ⟨he, ht⟩) hr)
  · have htick : exec .tick s = .next s.decideRereq :=
      congrArg Host.Outcome.next (State.tick_of_not_spent (State.timedOut_iff.mpr ⟨he, ht⟩) hr)
    refine ⟨fun i hmin hmax hmissing hlowest => ?_, s.chosenIndex, htick⟩
    have hfound : s.lowestMissing = some i := State.lowestMissing_eq_some.mpr ⟨⟨hmin, hmax⟩, hmissing, hlowest⟩
    rw [htick, ← State.chosenIndex_of_lowestMissing hfound]
    rfl

/-- Settles O29: ABANDON is RESETBUF with its own label, and TICK's outcome when the budget is spent. -/
theorem abandonClearsTheSequence : Obligations.AbandonClearsTheSequence := fun _ =>
  ⟨rfl, fun he ht hr => congrArg Host.Outcome.next (State.tick_of_spent (State.timedOut_iff.mpr ⟨he, ht⟩) hr)⟩

end Sys2Proof.Machine
end

section
/-! PROOF. R169, R193: the re-request as it is sent. One rule for each place of a send transaction, whoever's it is; in
`P_REREQ` the RECEIVER takes these places one after the other, and the run of seven steps is their chain. -/

namespace Sys2Proof.Machine
open Sys2Proof

/-! ### The places of a send transaction (R193) -/

section
variable {a : Activity} {s : State}

theorem sendStep_acquires (hp : s.txn a = .acquire) (hl : s.lock = .free) :
    sendStep a s = .next (({ s with lock := ownerOf a }.setTxn a .leaveListen).raise .ok) := by
  simp only [sendStep, hp, State.acquire_of_free hl]

theorem sendStep_waits (hp : s.txn a = .acquire) (hl : s.lock ≠ .free) : sendStep a s = .next s := by
  simp only [sendStep, hp, State.acquire_of_held hl]

theorem sendStep_leavesListen (hp : s.txn a = .leaveListen) :
    sendStep a s = .next (((s.setListen a false).setTxn a .transmit).raise .ok) := by
  simp only [sendStep, hp]

theorem sendStep_transmits (hp : s.txn a = .transmit) : sendStep a s =
    .next (((s.emit [.sendFragment a (s.txbuf a) s.port.ack]).setTxn a .restoreListen).raise
      (ackLabel s.port.ack)) := by
  simp only [sendStep, hp]

theorem sendStep_restoresListen (hp : s.txn a = .restoreListen) :
    sendStep a s = .next (((s.setListen a true).setTxn a .release).raise .ok) := by
  simp only [sendStep, hp]

theorem sendStep_releases (hp : s.txn a = .release) (hl : s.lock = ownerOf a) :
    sendStep a s = .next (({ s with lock := .free }.setTxn a .idle).raise .ok) := by
  simp only [sendStep, hp, State.release_of_owner hl, Result.andThen_next]

theorem sendStep_stops (hp : s.txn a = .release) (hl : s.lock ≠ ownerOf a) :
    sendStep a s = .fault .releaseByNonOwner := by
  simp only [sendStep, hp, State.release_of_not_owner hl]
  rfl

end

/-! ### The places of a re-request (R169) -/

section
variable {s : State}

theorem rereq_builds (hr : s.rstep = .pRereq) (hp : s.txnR = .idle) :
    exec .rereqSend s = .next { s with
      txbufR := frameBytes s.cfg.typeRerequest s.cfg.peerAddr s.cfg.localAddr (s.reqIndex.setWidth 8) []
      txnR := .acquire
      trace := s.trace ++ [.label .ok] } := by
  change rereqStep s = _
  simp only [rereqStep, hr, hp, State.rereqFrame, commandFrame_rerequest]
  rfl

/-- Between its first and its last step a re-request is the send transaction's next step. -/
theorem rereq_eq_sendStep (hr : s.rstep = .pRereq) (hp : s.txnR ∈ [.acquire, .leaveListen, .transmit, .restoreListen]) :
    exec .rereqSend s = sendStep .receiver s := by
  change rereqStep s = _
  simp only [List.mem_cons, List.not_mem_nil, or_false] at hp
  obtain hp | hp | hp | hp := hp <;> simp only [rereqStep, hr, hp]

theorem rereq_acquires (hr : s.rstep = .pRereq) (hp : s.txnR = .acquire) (hl : s.lock = .free) :
    exec .rereqSend s = .next { s with
      lock := .receiver, txnR := .leaveListen, trace := s.trace ++ [.label .ok] } :=
  (rereq_eq_sendStep hr (by simp [hp])).trans (sendStep_acquires (a := .receiver) hp hl)

theorem rereq_leavesListen (hr : s.rstep = .pRereq) (hp : s.txnR = .leaveListen) :
    exec .rereqSend s = .next { s with
      listen := false, txnR := .transmit, trace := s.trace ++ [.setListenMode .receiver false, .label .ok] } := by
  rw [rereq_eq_sendStep hr (by simp [hp]), sendStep_leavesListen (a := .receiver) hp, State.raise]
  simp [State.setTxn, State.setListen, State.emit]

theorem rereq_transmits (hr : s.rstep = .pRereq) (hp : s.txnR = .transmit) :
    exec .rereqSend s = .next { s with
      txnR := .restoreListen
      trace := s.trace ++ [.sendFragment .receiver s.txbufR s.port.ack,
        .label (if s.port.ack then .ok else .sendUnacked)] } := by
  rw [rereq_eq_sendStep hr (by simp [hp]), sendStep_transmits (a := .receiver) hp, State.raise]
  simp [State.setTxn, State.emit, State.txbuf, ackLabel]

theorem rereq_restoresListen (hr : s.rstep = .pRereq) (hp : s.txnR = .restoreListen) :
    exec .rereqSend s = .next { s with
      listen := true, txnR := .release, trace := s.trace ++ [.setListenMode .receiver true, .label .ok] } := by
  rw [rereq_eq_sendStep hr (by simp [hp]), sendStep_restoresListen (a := .receiver) hp, State.raise]
  simp [State.setTxn, State.setListen, State.emit]

theorem rereq_releases (hr : s.rstep = .pRereq) (hp : s.txnR = .release) (hl : s.lock = .receiver) :
    exec .rereqSend s = .next { s with
      lock := .free, txnR := .idle, rstep := .pStamp, trace := s.trace ++ [.label .ok] } := by
  change rereqStep s = _
  simp only [rereqStep, hr, hp, sendStep_releases (a := .receiver) hp hl]
  rfl

theorem rereq_stops (hr : s.rstep = .pRereq) (hp : s.txnR = .release) (hl : s.lock ≠ .receiver) :
    exec .rereqSend s = .fault .releaseByNonOwner := by
  change rereqStep s = _
  simp only [rereqStep, hr, hp, sendStep_stops (a := .receiver) hp hl]
  rfl

theorem rereq_stamps (hr : s.rstep = .pStamp) :
    exec .rereqSend s = .next { s with
      lastActivity := s.port.now, rstep := .pSleep, sleepArmed := false, trace := s.trace ++ [.label .ok] } := by
  change rereqStep s = _
  simp only [rereqStep, hr]
  rfl

theorem rereq_waits_elsewhere (hr : s.rstep ≠ .pRereq) (hstamp : s.rstep ≠ .pStamp) : exec .rereqSend s = .next s := by
  change rereqStep s = _
  unfold rereqStep
  split
  next h => exact absurd h hr
  next h => exact absurd h hstamp
  next => rfl

end

/-- Settles O30: each place has its rule. -/
theorem rereqSendSteps : Obligations.RereqSendSteps := fun _ =>
  ⟨rereq_builds, rereq_acquires,
    fun hr hp hl => (rereq_eq_sendStep hr (by simp [hp])).trans (sendStep_waits (a := .receiver) hp hl),
    rereq_leavesListen, rereq_transmits, rereq_restoresListen, rereq_releases, rereq_stops, rereq_stamps,
    rereq_waits_elsewhere⟩

/-- Settles O31: the seven places in their order. -/
theorem rereqSendRunsToItsStamp : Obligations.RereqSendRunsToItsStamp := by
  intro s f hr hp hl hf
  refine Eq.trans (execTimes_succ_of_next (rereq_builds hr hp)) ?_
  rw [← hf]
  refine Eq.trans (execTimes_succ_of_next (rereq_acquires hr rfl hl)) ?_
  refine Eq.trans (execTimes_succ_of_next (rereq_leavesListen hr rfl)) ?_
  refine Eq.trans (execTimes_succ_of_next (rereq_transmits hr rfl)) ?_
  refine Eq.trans (execTimes_succ_of_next (rereq_restoresListen hr rfl)) ?_
  refine Eq.trans (execTimes_succ_of_next (rereq_releases hr rfl rfl)) ?_
  refine Eq.trans (execTimes_succ_of_next (rereq_stamps rfl)) ?_
  simp [execTimes]

end Sys2Proof.Machine
end

section
/-! PROOF. R171: the order of arrival does not matter. `State.Delivered` says what the engine holds when the fragments
with the indices in `got` have arrived, each once; every further one keeps it, and the completion check fires exactly when
none is missing. -/

namespace Sys2Proof.Machine
open Sys2Proof

/-- The body of fragment `j` of a message (R171). -/
def bodyAt (bodies : List Bytes) (j : Nat) : Bytes := bodies.getD (j - 1) []

/-- The fragments in `got` of a message of the bodies `bodies` have arrived, and the completion check has not fired. -/
structure State.Delivered (bodies : List Bytes) (got : List Nat) (s : State) : Prop where
  present : ∀ j, (decide (s.expectedCount ≠ 0) && s.isPresent j) = decide (j ∈ got)
  stored : ∀ j ∈ got, s.slotBytes j = bodyAt bodies j
  bounded : s.expectedCount.toNat ≤ bodies.length
  ended : bodies.length ∈ got → s.expectedCount.toNat = bodies.length
  open_ended : bodies.length ∉ got → ∀ j ∈ got, j < s.expectedCount.toNat
  memory : s.slotData.wf
  fits : ∀ b ∈ bodies, b.length ≤ s.cfg.slotCap

theorem State.Delivered.raise {bodies : List Bytes} {got : List Nat} {s : State} (h : s.Delivered bodies got)
    (l : Label) : (s.raise l).Delivered bodies got := { h with }

theorem bodyAt_mem {bodies : List Bytes} {j : Nat} (hj : 1 ≤ j ∧ j ≤ bodies.length) : bodyAt bodies j ∈ bodies := by
  rw [bodyAt, List.getD_eq_getElem _ _ (by omega)]
  exact List.getElem_mem _

/-- R165: in index order the bodies are the message. -/
theorem map_bodyAt (bodies : List Bytes) : (List.range' 1 bodies.length).map (bodyAt bodies) = bodies := by
  refine List.ext_getElem (by simp) fun n _ h => ?_
  simp [bodyAt, h]

/-! ### One more arrival -/

section
variable {bodies : List Bytes} {got : List Nat} {s : State} {j : Nat}

/-- R163, R164: the count is the message's once the last fragment is there, and above every index before. -/
theorem State.Delivered.arriveAt (h : s.Delivered bodies got) (hlen : bodies.length ≤ 15)
    (hj : 1 ≤ j ∧ j ≤ bodies.length) :
    (s.arriveAt j (decide (j = bodies.length)) (bodyAt bodies j)).Delivered bodies (j :: got) := by
  have hslot : isSlotIndex j = true := isSlotIndex_iff.mpr ⟨hj.1, by omega⟩
  have hm : s.beginSequence.slotData.wf := by
    rw [s.beginSequence_slotData]
    exact h.memory
  have hcount : (s.arriveAt j (decide (j = bodies.length)) (bodyAt bodies j)).expectedCount.toNat =
      if j = bodies.length then j else max (j + 1) s.expectedCount.toNat := by
    rw [State.arriveAt_expectedCount, nextExpected_toNat _ (by omega)]
    simp only [decide_eq_true_eq]
  have hcollecting : (s.arriveAt j (decide (j = bodies.length)) (bodyAt bodies j)).expectedCount ≠ 0 := by
    intro hzero
    rw [hzero] at hcount
    split at hcount <;> simp at hcount <;> omega
  have hbounded := h.bounded
  refine ⟨fun k => ?_, fun k hk => ?_, ?_, fun hend => ?_, fun hopen k hk => ?_, ?_, ?_⟩
  · rw [decide_eq_true hcollecting, Bool.true_and, s.isPresent_arriveAt _ _ hslot, h.present]
    simp
  · by_cases hkj : k = j
    · subst hkj
      exact State.slotBytes_storeSlot_same _ hslot hm
    · have hgot : k ∈ got := (List.mem_cons.mp hk).resolve_left hkj
      rw [State.arriveAt_slotBytes, State.slotBytes_storeSlot_other _ hslot hm hkj,
        State.slotBytes_congr s.beginSequence_slotLen s.beginSequence_slotData]
      exact h.stored k hgot
  · rw [hcount]
    split <;> omega
  · rw [hcount]
    split
    next hlast => exact hlast
    next hlast =>
      have hgot : bodies.length ∈ got := (List.mem_cons.mp hend).resolve_left (Ne.symm hlast)
      rw [h.ended hgot]
      omega
  · simp only [List.mem_cons, not_or] at hopen
    rw [hcount, if_neg (Ne.symm hopen.1)]
    obtain rfl | hk := List.mem_cons.mp hk
    · omega
    · have := h.open_ended hopen.2 k hk
      omega
  · rw [State.arriveAt_slotData]
    exact Memory.writeSlot_wf h.memory _ _ _
  · rw [State.arriveAt_cfg]
    exact h.fits

theorem State.Delivered.exec_arrive (h : s.Delivered bodies got) (hlen : bodies.length ≤ 15)
    (hj : 1 ≤ j ∧ j ≤ bodies.length) :
    exec (.arrive (BitVec.ofNat 7 j) (decide (j = bodies.length)) (bodyAt bodies j)) s =
      .next ((s.arriveAt j (decide (j = bodies.length)) (bodyAt bodies j)).raise .ok) := by
  have hindex : (BitVec.ofNat 7 j).toNat = j := by
    rw [BitVec.toNat_ofNat]
    omega
  have hslot : isSlotIndex (BitVec.ofNat 7 j).toNat = true := isSlotIndex_iff.mpr (by omega)
  rw [exec_arrive_of_fits hslot (h.fits _ (bodyAt_mem hj)), hindex]

/-! ### The completion check after it -/

/-- R165: the check fires when no index of the message is missing, and then assembles the bodies in index order. -/
theorem State.Delivered.full (h : s.Delivered bodies got) (hlen : 1 ≤ bodies.length ∧ bodies.length ≤ 15)
    (hall : ∀ j, 1 ≤ j → j ≤ bodies.length → j ∈ got) :
    s.sequenceFull = true ∧ s.message = bodies.flatten := by
  have hcount : s.expectedCount.toNat = bodies.length := h.ended (hall _ hlen.1 le_rfl)
  constructor
  · refine State.sequenceFull_iff.mpr ⟨by omega, by omega, fun i hmin hmax => ?_⟩
    have hpresent := h.present i
    rw [decide_eq_true (hall i hmin (by omega)), Bool.and_eq_true] at hpresent
    exact hpresent.2
  · have hstored : (List.range' 1 bodies.length).map s.slotBytes = bodies := by
      refine Eq.trans (List.map_congr_left fun j hj => ?_) (map_bodyAt bodies)
      rw [List.mem_range'_1] at hj
      exact h.stored j (hall j hj.1 (by omega))
    rw [State.message, hcount, List.flatMap_def, hstored]

/-- While an index is missing it does not: either the count is already the message's, or its own index is missing. -/
theorem State.Delivered.not_full (h : s.Delivered bodies got) (hj : 1 ≤ j ∧ j ≤ bodies.length) (hmissing : j ∉ got) :
    ¬ s.sequenceFull = true := by
  rw [State.sequenceFull_iff]
  rintro ⟨hpos, -, hall⟩
  have hcollecting : s.expectedCount ≠ 0 := fun hzero => by simp [hzero] at hpos
  have hgot : ∀ i, 1 ≤ i → i ≤ s.expectedCount.toNat → i ∈ got := fun i hmin hmax => by
    have hpresent := h.present i
    rw [hall i hmin hmax, decide_eq_true hcollecting] at hpresent
    exact of_decide_eq_true hpresent.symm
  by_cases hend : bodies.length ∈ got
  · exact hmissing (hgot j hj.1 (by rw [h.ended hend]; exact hj.2))
  · exact Nat.lt_irrefl _ (h.open_ended hend _ (hgot _ hpos le_rfl))

end

/-! ### The deliveries one after the other -/

theorem execAll_cons_of_next {i : Instr} {is : List Instr} {s t : State} (h : exec i s = .next t) :
    execAll (i :: is) s = execAll is t := by
  simp only [execAll, h]

section
variable {bodies : List Bytes}

/-- R171: from where `got` has arrived, the rest in any order completes exactly at its last arrival. -/
theorem State.Delivered.completes (hlen : 1 ≤ bodies.length ∧ bodies.length ≤ 15) {rest got : List Nat} {s : State}
    (h : s.Delivered bodies got) (hne : rest ≠ []) (hperm : (got ++ rest).Perm (List.range' 1 bodies.length)) :
    ∃ t, execAll (deliveries bodies rest) s = .next t ∧
      t.expectedCount = 0 ∧ t.retry = 0 ∧ t.present = Vector.replicate 15 false ∧
      t.trace = s.trace ++ List.replicate (2 * rest.length - 1) (.label .ok) ++ completionEvents bodies.flatten := by
  induction rest generalizing got s with
  | nil => exact absurd rfl hne
  | cons j rest ih =>
    have hmem : ∀ i, i ∈ got ++ j :: rest ↔ 1 ≤ i ∧ i ≤ bodies.length := fun i => by
      rw [hperm.mem_iff, List.mem_range'_1, Nat.lt_one_add_iff]
    have hj : 1 ≤ j ∧ j ≤ bodies.length := (hmem j).mp (by simp)
    have harrived := (h.arriveAt hlen.2 hj).raise .ok
    have htrace : (s.arriveAt j (decide (j = bodies.length)) (bodyAt bodies j)).trace = s.trace := by
      rw [State.arriveAt_eq]
    have hrun : execAll (deliveries bodies (j :: rest)) s = execAll (.complete :: deliveries bodies rest)
        ((s.arriveAt j (decide (j = bodies.length)) (bodyAt bodies j)).raise .ok) :=
      execAll_cons_of_next (h.exec_arrive hlen.2 hj)
    rw [hrun]
    cases rest with
    | nil =>
      obtain ⟨hfull, hmessage⟩ := harrived.full hlen fun i hmin hmax => by
        simpa [or_comm] using (hmem i).mpr ⟨hmin, hmax⟩
      refine ⟨_, execAll_cons_of_next (congrArg Host.Outcome.next (State.complete_of_full hfull)), rfl, rfl, rfl, ?_⟩
      rw [hmessage, State.emit_trace, State.resetbuf_trace, State.raise_trace, htrace]
      rfl
    | cons k rest =>
      have hnodup : (got ++ j :: k :: rest).Nodup := hperm.nodup_iff.mpr List.nodup_range'
      have hk : k ∉ j :: got := by
        simp only [List.nodup_append, List.nodup_cons, List.mem_cons] at hnodup ⊢
        grind
      have hwaits : exec .complete ((s.arriveAt j (decide (j = bodies.length)) (bodyAt bodies j)).raise .ok) = _ :=
        congrArg Host.Outcome.next
          (State.complete_of_not_full (harrived.not_full ((hmem k).mp (by simp)) hk))
      obtain ⟨t, ht, he, hr, hp, hrecord⟩ := ih (harrived.raise .ok) (List.cons_ne_nil _ _)
        (List.Perm.trans List.perm_middle.symm hperm)
      refine ⟨t, (execAll_cons_of_next hwaits).trans ht, he, hr, hp, ?_⟩
      rw [hrecord, State.raise_trace, State.raise_trace, htrace]
      simp [List.replicate_succ, Nat.mul_add]

end

/-- Settles O32: nothing has been delivered to an idle engine, and all of the message is still to come. -/
theorem outOfOrderArrivalCompletes : Obligations.OutOfOrderArrivalCompletes := by
  intro s bodies order hidle hm hmin hmax hfits hperm
  have hnone : s.Delivered bodies [] :=
    { present := by simp [hidle], stored := by simp, bounded := by simp [hidle],
      ended := by simp, open_ended := by simp, memory := hm, fits := hfits }
  have hlength : order.length = bodies.length := by simpa using hperm.length_eq
  have hne : order ≠ [] := List.ne_nil_of_length_pos (by omega)
  rw [← hlength]
  exact hnone.completes ⟨hmin, hmax⟩ hne hperm

end Sys2Proof.Machine
end

section
/-! PROOF. R173, R193 to R200: the machine's invariant, and the SENDER's side of it. The invariant falls into four parts:
who owns the lock and whether the channel listens (`State.LockInv`), the SENDER's own places (`State.SenderInv`), the
RECEIVER's own places (`State.ReceiverInv`), and the engine (`State.EngineInv`). An activity's operation keeps the first,
its own part and, for the RECEIVER, the engine; the other's part it does not touch (R62). -/

namespace Sys2Proof.Machine
open Sys2Proof

/-- Every next state of a result satisfies `P`. -/
def Result.Gives (P : State → Prop) (r : Result) : Prop := ∀ t, r = .next t → P t

theorem Result.Gives.next {P : State → Prop} {t : State} (h : P t) : Result.Gives P (.next t) := by
  rintro u ⟨⟩
  exact h

/-! ### The parts of the invariant -/

/-- The places of an activity's two transactions, those that own the lock among them. -/
def State.holdsLock (s : State) : Activity → Bool
  | .sender => s.txnS.holds
  | .receiver => s.txnR.holds || s.rxPhase.holds

/-- R200 (a), (b): the lock is owned exactly inside a transaction; the channel listens except between the two calls. -/
structure State.LockInv (s : State) : Prop where
  owns : ∀ a, s.lock = ownerOf a ↔ s.holdsLock a = true
  listen : s.listen = !(s.txnS.outOfListen || s.txnR.outOfListen)

/-- The SENDER is inside a transaction only at the steps that run one, with its frame in the buffer. -/
structure State.SenderInv (s : State) : Prop where
  send_step : s.txnS ≠ .idle → s.sstep ≠ .sDiag
  finish_step : s.txnS = .finish → s.sstep = .sStartup
  sender_loaded : s.txnS.loaded = true → frameFits s.cfg s.txbufS = true

/-- The RECEIVER is inside a transaction only at the steps that run one, with its frame in the buffer. -/
structure State.ReceiverInv (s : State) : Prop where
  rxchk_step : s.rxPhase ≠ .idle → s.rstep = .pRxchk
  rereq_step : s.txnR ≠ .idle → s.rstep = .pRereq ∧ s.txnR ≠ .finish
  receiver_loaded : s.txnR.loaded = true → frameFits s.cfg s.txbufR = true

/-- What of the engine's invariant does not depend on the RECEIVER's step. -/
structure State.BufferInv (s : State) : Prop where
  expected_le : s.expectedCount.toNat ≤ 16
  retry_le : s.retry.toNat ≤ 5
  idle_empty : s.expectedCount = 0 → s.present = Vector.replicate 15 false ∧ s.retry = 0
  collecting_present : s.expectedCount ≠ 0 → ∃ i, s.isPresent i = true
  slot_fits : ∀ i, s.isPresent i = true → s.slotLength i ≤ s.cfg.slotCap
  memory_wf : s.slotData.wf

section
variable {s : State}

theorem State.ArbiterInv.lockInv (h : s.ArbiterInv) : s.LockInv where
  owns
    | .sender => h.sender_owns
    | .receiver => h.receiver_owns
  listen := h.listen_mirror

theorem State.ArbiterInv.senderInv (h : s.ArbiterInv) : s.SenderInv := { h with }

theorem State.ArbiterInv.receiverInv (h : s.ArbiterInv) : s.ReceiverInv := { h with }

theorem State.EngineInv.bufferInv (h : s.EngineInv) : s.BufferInv := { h with }

/-- What the environment presents is no part of the invariant. -/
theorem State.Inv.takesInput {t : State} (h : s.Inv) (ht : s.TakesInput t) : t.Inv := by
  rw [State.takesInput_frame ht]
  exact ⟨h.frame_len, { h.arbiter with }, { h.engine with }⟩

end

/-! ### The lock and the listen mirror (R193, R194) -/

theorem SendPhase.outOfListen_of_not_holds {p : SendPhase} (h : p.holds = false) : p.outOfListen = false := by
  revert h
  cases p <;> decide

section
variable {s t : State}

/-- A lock that is free, or `a`'s, is not another activity's. -/
theorem lock_ne_ownerOf {l : Lock} {a b : Activity} (h : l = .free ∨ l = ownerOf a) (hb : b ≠ a) : l ≠ ownerOf b := by
  obtain rfl | rfl := h
  · cases b <;> decide
  · intro hab
    cases a <;> cases b <;> cases hab <;> exact hb rfl

theorem State.LockInv.txn_holds_eq_false (h : s.LockInv) {a : Activity} (hl : s.lock ≠ ownerOf a) :
    (s.txn a).holds = false := by
  have hnot : s.holdsLock a = false := Bool.eq_false_iff.mpr fun hh => hl ((h.owns a).mpr hh)
  cases a with
  | sender => exact hnot
  | receiver => exact (Bool.or_eq_false_iff.mp hnot).1

theorem State.LockInv.rxPhase_holds_eq_false (h : s.LockInv) (hl : s.lock ≠ .receiver) : s.rxPhase.holds = false := by
  have hnot : s.holdsLock .receiver = false := Bool.eq_false_iff.mpr fun hh => hl ((h.owns .receiver).mpr hh)
  exact (Bool.or_eq_false_iff.mp hnot).2

/-- Whoever may take the lock, or has it, alone decides whether the channel listens. -/
theorem State.LockInv.listen_eq (h : s.LockInv) {a : Activity} (hl : s.lock = .free ∨ s.lock = ownerOf a) :
    s.listen = !(s.txn a).outOfListen := by
  rw [h.listen]
  cases a with
  | sender =>
    have hother : (s.txn .receiver).holds = false := h.txn_holds_eq_false (lock_ne_ownerOf hl (by decide))
    rw [show s.txnR.outOfListen = false from SendPhase.outOfListen_of_not_holds hother, Bool.or_false]
    rfl
  | receiver =>
    have hother : (s.txn .sender).holds = false := h.txn_holds_eq_false (lock_ne_ownerOf hl (by decide))
    rw [show s.txnS.outOfListen = false from SendPhase.outOfListen_of_not_holds hother, Bool.false_or]
    rfl

/-- With the lock free or its own, an activity may go to any place of its send transaction that sets lock and mirror as
the place needs them. -/
theorem State.LockInv.of_send {a : Activity} (h : s.LockInv) (hl : s.lock = .free ∨ s.lock = ownerOf a)
    (hrx : a = .receiver → s.rxPhase = .idle) (hlock : t.lock = if (t.txn a).holds then ownerOf a else .free)
    (hlisten : t.listen = !(t.txn a).outOfListen) (hother : ∀ b, b ≠ a → t.txn b = s.txn b)
    (hphase : t.rxPhase = s.rxPhase) : t.LockInv := by
  cases a with
  | sender =>
    have hfree : s.lock ≠ .receiver := lock_ne_ownerOf (b := .receiver) hl (by decide)
    have hR : t.txnR = s.txnR := hother .receiver (by decide)
    have hRholds : t.txnR.holds = false := by rw [hR]; exact h.txn_holds_eq_false (a := .receiver) hfree
    have hxholds : t.rxPhase.holds = false := by rw [hphase]; exact h.rxPhase_holds_eq_false hfree
    change t.lock = if t.txnS.holds then Lock.sender else .free at hlock
    change t.listen = !t.txnS.outOfListen at hlisten
    refine ⟨fun b => ?_, ?_⟩
    · cases b <;> simp only [State.holdsLock, ownerOf, hlock, hRholds, hxholds] <;> cases t.txnS.holds <;> decide
    · rw [hlisten, SendPhase.outOfListen_of_not_holds hRholds, Bool.or_false]
  | receiver =>
    have hfree : s.lock ≠ .sender := lock_ne_ownerOf (b := .sender) hl (by decide)
    have hS : t.txnS = s.txnS := hother .sender (by decide)
    have hSholds : t.txnS.holds = false := by rw [hS]; exact h.txn_holds_eq_false (a := .sender) hfree
    have hx : t.rxPhase = .idle := hphase.trans (hrx rfl)
    change t.lock = if t.txnR.holds then Lock.receiver else .free at hlock
    change t.listen = !t.txnR.outOfListen at hlisten
    refine ⟨fun b => ?_, ?_⟩
    · cases b <;> simp only [State.holdsLock, ownerOf, hlock, hSholds, hx, RxPhase.holds] <;>
        cases t.txnR.holds <;> decide
    · rw [hlisten, SendPhase.outOfListen_of_not_holds hSholds, Bool.false_or]

/-- So may the RECEIVER to any place of its receive-check, which never touches the mirror. -/
theorem State.LockInv.of_rxchk (h : s.LockInv) (hl : s.lock = .free ∨ s.lock = .receiver) (hR : s.txnR = .idle)
    (hlock : t.lock = if t.rxPhase.holds then .receiver else .free) (hlisten : t.listen = s.listen)
    (hsend : ∀ a, t.txn a = s.txn a) : t.LockInv := by
  have hfree : s.lock ≠ .sender := lock_ne_ownerOf (a := .receiver) (b := .sender) hl (by decide)
  have hSholds : t.txnS.holds = false := by
    rw [show t.txnS = s.txnS from hsend .sender]
    exact h.txn_holds_eq_false (a := .sender) hfree
  have htR : t.txnR = .idle := (hsend .receiver).trans hR
  have hRholds : t.txnR.holds = false := by rw [htR]; rfl
  refine ⟨fun b => ?_, ?_⟩
  · cases b <;> simp only [State.holdsLock, ownerOf, hlock, hSholds, hRholds] <;>
      cases t.rxPhase.holds <;> decide
  · rw [hlisten, h.listen, show t.txnS = s.txnS from hsend .sender, htR, hR]

/-- Outside the places that own the lock an activity's place is of no concern to the lock. -/
theorem State.LockInv.of_aside {a : Activity} (h : s.LockInv) (hs : (s.txn a).holds = false)
    (ht : (t.txn a).holds = false) (hlock : t.lock = s.lock) (hlisten : t.listen = s.listen)
    (hother : ∀ b, b ≠ a → t.txn b = s.txn b) (hphase : t.rxPhase = s.rxPhase) : t.LockInv := by
  have hflags : ∀ b, (t.txn b).holds = (s.txn b).holds ∧ (t.txn b).outOfListen = (s.txn b).outOfListen := fun b => by
    by_cases hb : b = a
    · subst hb
      rw [hs, ht, SendPhase.outOfListen_of_not_holds hs, SendPhase.outOfListen_of_not_holds ht]
      exact ⟨rfl, rfl⟩
    · rw [hother b hb]
      exact ⟨rfl, rfl⟩
  obtain ⟨hS, hSout⟩ : t.txnS.holds = s.txnS.holds ∧ t.txnS.outOfListen = s.txnS.outOfListen := hflags .sender
  obtain ⟨hR, hRout⟩ : t.txnR.holds = s.txnR.holds ∧ t.txnR.outOfListen = s.txnR.outOfListen := hflags .receiver
  refine ⟨fun b => ?_, by rw [hlisten, h.listen, hSout, hRout]⟩
  have howns := h.owns b
  cases b with
  | sender => rwa [State.holdsLock, hlock, hS]
  | receiver => rwa [State.holdsLock, hlock, hR, hphase]

/-- Moving one activity leaves the other's place. -/
theorem State.txn_setTxn_of_ne (s : State) {a b : Activity} (h : b ≠ a) (p : SendPhase) :
    (s.setTxn a p).txn b = s.txn b := by
  cases a with
  | sender =>
    cases b with
    | sender => exact absurd rfl h
    | receiver => rfl
  | receiver =>
    cases b with
    | sender => rfl
    | receiver => exact absurd rfl h

theorem State.LockInv.lock_of_holds (h : s.LockInv) {a : Activity} (hp : (s.txn a).holds = true) :
    s.lock = ownerOf a := by
  by_contra hl
  rw [h.txn_holds_eq_false hl] at hp
  cases hp

theorem State.LockInv.of_setTxn {a : Activity} {p : SendPhase} {u : State} (h : s.LockInv)
    (hl : s.lock = .free ∨ s.lock = ownerOf a) (hrx : a = .receiver → s.rxPhase = .idle)
    (hlock : u.lock = if p.holds then ownerOf a else .free) (hlisten : u.listen = !p.outOfListen)
    (hother : ∀ b, b ≠ a → u.txn b = s.txn b) (hphase : u.rxPhase = s.rxPhase) : (u.setTxn a p).LockInv :=
  h.of_send hl hrx (by rwa [State.setTxn_lock, State.txn_setTxn]) (by rwa [State.setTxn_listen, State.txn_setTxn])
    (fun b hb => (State.txn_setTxn_of_ne _ hb _).trans (hother b hb)) ((State.setTxn_rxPhase ..).trans hphase)

theorem State.LockInv.raise (h : s.LockInv) (l : Label) : (s.raise l).LockInv := { h with }

/-- R193: every step of a send transaction keeps lock and mirror as its places need them. -/
theorem sendStep_keeps_lockInv {a : Activity} (h : s.LockInv) (hrx : a = .receiver → s.rxPhase = .idle) :
    (sendStep a s).Gives State.LockInv := by
  intro t ht
  obtain ⟨rfl, -⟩ | ⟨hp, hl, rfl⟩ | ⟨hp, rfl⟩ | ⟨hp, rfl⟩ | ⟨hp, rfl⟩ | ⟨hp, hl, rfl⟩ := sendStep_eq_next ht
  · exact h
  · have hlisten := h.listen_eq (a := a) (.inl hl)
    rw [hp] at hlisten
    refine State.LockInv.raise ?_ _
    exact h.of_setTxn (.inl hl) hrx rfl hlisten (fun b _ => by cases b <;> rfl) rfl
  · have hl : s.lock = ownerOf a := h.lock_of_holds (by rw [hp]; rfl)
    refine State.LockInv.raise ?_ _
    exact h.of_setTxn (.inr hl) hrx hl rfl (fun b _ => by cases b <;> rfl) rfl
  · have hl : s.lock = ownerOf a := h.lock_of_holds (by rw [hp]; rfl)
    have hlisten := h.listen_eq (.inr hl)
    rw [hp] at hlisten
    refine State.LockInv.raise ?_ _
    exact h.of_setTxn (.inr hl) hrx hl hlisten (fun b _ => by cases b <;> rfl) rfl
  · have hl : s.lock = ownerOf a := h.lock_of_holds (by rw [hp]; rfl)
    refine State.LockInv.raise ?_ _
    exact h.of_setTxn (.inr hl) hrx hl rfl (fun b _ => by cases b <;> rfl) rfl
  · have hlisten := h.listen_eq (.inr hl)
    rw [hp] at hlisten
    refine State.LockInv.raise ?_ _
    exact h.of_setTxn (.inr hl) hrx rfl hlisten (fun b _ => by cases b <;> rfl) rfl

/-- R194: so does every step of a receive-check. -/
theorem rxchkStep_keeps_lockInv (h : s.LockInv) (hR : s.txnR = .idle) : (rxchkStep s).Gives State.LockInv := by
  intro t ht
  have howner : s.rxPhase.holds = true → s.lock = .receiver := fun hx =>
    (h.owns .receiver).mpr (by rw [State.holdsLock, hx, Bool.or_true])
  obtain ⟨rfl, -⟩ | ⟨hp, hl, rfl⟩ | ⟨hp, rfl⟩ | ⟨hp, rfl⟩ | ⟨got, hp, hl, rfl⟩ := rxchkStep_eq_next ht
  · exact h
  · exact h.of_rxchk (.inl hl) hR rfl rfl fun b => by cases b <;> rfl
  · have hl := howner (by rw [hp]; rfl)
    refine h.of_rxchk (.inr hl) hR ?_ rfl fun b => by cases b <;> rfl
    cases s.port.available <;> exact hl
  · have hl := howner (by rw [hp]; rfl)
    exact h.of_rxchk (.inr hl) hR hl rfl fun b => by cases b <;> rfl
  · exact h.of_rxchk (.inr hl) hR rfl rfl fun b => by cases b <;> rfl

end

/-! ### The SENDER's operations (R193, R195, R196) -/

/-- What a step of `a`'s send transaction leaves as it is, and where it leads. -/
structure State.SendPlace (a : Activity) (s t : State) : Prop where
  cfg : t.cfg = s.cfg
  sstep : t.sstep = s.sstep
  rstep : t.rstep = s.rstep
  rxPhase : t.rxPhase = s.rxPhase
  txbuf : t.txbuf a = s.txbuf a
  inside : t.txn a ≠ .idle → s.txn a ≠ .idle
  finish : t.txn a = .finish → s.txn a = .finish
  loaded : (t.txn a).loaded = true → (s.txn a).loaded = true

theorem sendStep_place (a : Activity) (s : State) : (sendStep a s).Gives (s.SendPlace a) := by
  intro t ht
  have htxbuf : ∀ (p : SendPhase) (b : Bool), ((s.setListen a b).setTxn a p).txbuf a = s.txbuf a := by
    cases a <;> intros <;> rfl
  obtain ⟨rfl, -⟩ | ⟨hp, -, rfl⟩ | ⟨hp, rfl⟩ | ⟨hp, rfl⟩ | ⟨hp, rfl⟩ | ⟨hp, -, rfl⟩ := sendStep_eq_next ht
  · exact ⟨rfl, rfl, rfl, rfl, rfl, id, id, id⟩
  · constructor <;> simp [hp, SendPhase.loaded]
    cases a <;> rfl
  · constructor <;> simp [hp, SendPhase.loaded, htxbuf]
  · constructor <;> simp [hp, SendPhase.loaded]
  · constructor <;> simp [hp, SendPhase.loaded, htxbuf]
  · constructor <;> simp [hp, SendPhase.loaded]
    cases a <;> rfl

/-- What the SENDER's operations keep of the invariant. -/
structure State.SenderSide (s : State) : Prop where
  locked : s.LockInv
  placed : s.SenderInv

section
variable {s : State}

/-- Outside a transaction the SENDER may be at any step. -/
theorem State.SenderInv.of_idle (h : s.txnS = .idle) : s.SenderInv := by
  constructor <;> simp [h, SendPhase.loaded]

theorem State.SenderInv.of_sendPlace {t : State} (h : s.SenderInv) (ht : s.SendPlace .sender t) : t.SenderInv where
  send_step hp := ht.sstep ▸ h.send_step (ht.inside hp)
  finish_step hp := ht.sstep ▸ h.finish_step (ht.finish hp)
  sender_loaded hp := by
    have hbuf : t.txbufS = s.txbufS := ht.txbuf
    rw [hbuf, ht.cfg]
    exact h.sender_loaded (ht.loaded hp)

theorem sendStep_keeps_senderSide (h : s.SenderSide) : (sendStep .sender s).Gives State.SenderSide := fun t ht =>
  ⟨sendStep_keeps_lockInv h.locked (by nofun) t ht, h.placed.of_sendPlace (sendStep_place .sender s t ht)⟩

/-- R71, D6: a frame of a payload within `MAX_TX_PAYLOAD` fits the buffer. -/
theorem frameFits_of_encodeFrame {c : Params} (hc : 26 ≤ c.maxFrameLen) {type : Byte} {dst src : Word} {fid : Byte}
    {p f : Bytes} (h : encodeFrame c type dst src fid p = .ok f) : frameFits c f = true := by
  obtain ⟨hp, rfl⟩ := encodeFrame_eq_ok h
  have hlength := Laws.frameBytes_length type dst src fid p
  rw [Params.maxTxPayload] at hp
  rw [frameFits, Bool.and_eq_true, decide_eq_true_eq, decide_eq_true_eq, Config.minFrameLen]
  split at hlength <;> omega

theorem frameFits_of_commandFrame {c : Params} (hc : 26 ≤ c.maxFrameLen) {k : CmdFrame} {f : Bytes}
    (h : commandFrame c k = .ok f) : frameFits c f = true := by
  cases k <;> exact frameFits_of_encodeFrame hc h

theorem frameFits_of_startupFrame {c : Params} (hc : 26 ≤ c.maxFrameLen) {f : Bytes} (h : startupFrame c = .ok f) :
    frameFits c f = true := by
  unfold startupFrame at h
  split at h
  next => exact frameFits_of_commandFrame hc h
  next => cases h

/-- The SENDER at a place that does not own the lock may go to another one, its own registers as that one needs them. -/
theorem State.SenderSide.of_aside {t : State} (h : s.SenderSide) (hs : s.txnS.holds = false) (ht : t.txnS.holds = false)
    (hlock : t.lock = s.lock) (hlisten : t.listen = s.listen) (hR : t.txnR = s.txnR) (hphase : t.rxPhase = s.rxPhase)
    (hplaced : t.SenderInv) : t.SenderSide where
  locked := h.locked.of_aside (a := .sender) hs ht hlock hlisten
    (fun | .sender, hne => absurd rfl hne | .receiver, _ => hR) hphase
  placed := hplaced

/-- The SENDER's RELEASE, together with where its sequence goes on. -/
theorem State.SenderSide.of_release {t : State} (h : s.SenderSide) (hp : s.txnS = .release) (ht : t.txnS.holds = false)
    (hlock : t.lock = .free) (hlisten : t.listen = s.listen) (hR : t.txnR = s.txnR) (hphase : t.rxPhase = s.rxPhase)
    (hplaced : t.SenderInv) : t.SenderSide where
  locked := by
    have hl : s.lock = ownerOf .sender := h.locked.lock_of_holds (a := .sender) (by rw [State.txn, hp]; rfl)
    have hmirror : s.listen = !s.txnS.outOfListen := h.locked.listen_eq (a := .sender) (.inr hl)
    refine h.locked.of_send (a := .sender) (.inr hl) (by nofun) ?_ ?_
      (fun | .sender, hne => absurd rfl hne | .receiver, _ => hR) hphase
    · change t.lock = if t.txnS.holds then _ else _
      rw [ht, hlock]
      rfl
    · change t.listen = !t.txnS.outOfListen
      rw [hlisten, hmirror, hp, SendPhase.outOfListen_of_not_holds ht]
      rfl
  placed := hplaced

theorem sendStep_sender_releases (h : s.SenderSide) (hp : s.txnS = .release) :
    sendStep .sender s = .next (({ s with lock := .free }.setTxn .sender .idle).raise .ok) :=
  sendStep_releases (a := .sender) hp (h.locked.lock_of_holds (a := .sender) (by rw [State.txn, hp]; rfl))

theorem execStartup_keeps_senderSide (h : s.SenderSide) (hc : 26 ≤ s.cfg.maxFrameLen) :
    (execStartup s).Gives State.SenderSide := by
  have hstep := sendStep_keeps_senderSide h
  unfold execStartup
  cases hs : s.sstep with
  | sStartup =>
    cases hp : s.txnS with
    | idle =>
      have haside : s.txnS.holds = false := by rw [hp]; rfl
      dsimp only
      split
      next f hf =>
        exact .next (h.of_aside haside rfl rfl rfl rfl rfl
          ⟨by nofun, by nofun, fun _ => frameFits_of_startupFrame hc hf⟩)
      next l _ =>
        exact .next (h.of_aside haside rfl rfl rfl rfl rfl
          ⟨fun _ hd => absurd (hs.symm.trans hd) (by decide), fun _ => hs, by nofun⟩)
    | release =>
      dsimp only
      rw [sendStep_sender_releases h hp]
      exact .next (h.of_release hp rfl rfl rfl rfl rfl
        ⟨fun _ hd => absurd (hs.symm.trans hd) (by decide), fun _ => hs, by nofun⟩)
    | finish =>
      exact .next (h.of_aside (by rw [hp]; rfl) rfl rfl rfl rfl rfl (.of_idle rfl))
    | _ => exact hstep
  | _ => exact .next h

theorem execSync_keeps_senderSide (h : s.SenderSide) (hc : 26 ≤ s.cfg.maxFrameLen) :
    (execSync s).Gives State.SenderSide := by
  have hstep := sendStep_keeps_senderSide h
  unfold execSync
  cases hs : s.sstep with
  | sStartup => exact .next h
  | sSync =>
    cases hp : s.txnS with
    | idle =>
      have haside : s.txnS.holds = false := by rw [hp]; rfl
      dsimp only
      split
      next f hf =>
        exact .next (h.of_aside haside rfl rfl rfl rfl rfl
          ⟨by nofun, by nofun, fun _ => frameFits_of_commandFrame hc hf⟩)
      next l _ =>
        exact .next (h.of_aside haside rfl rfl rfl rfl rfl (.of_idle rfl))
    | release =>
      dsimp only
      rw [sendStep_sender_releases h hp]
      exact .next (h.of_release hp rfl rfl rfl rfl rfl (.of_idle rfl))
    | finish => exact .next h
    | _ => exact hstep
  | sDiag =>
    have hp : s.txnS = .idle := by
      by_contra hne
      exact h.placed.send_step hne hs
    have haside : s.txnS.holds = false := by rw [hp]; rfl
    exact .next (h.of_aside haside haside rfl rfl rfl rfl (.of_idle hp))
  | sSleep =>
    dsimp only
    split
    next hidle =>
      have hp : s.txnS = .idle := hidle.1
      have haside : s.txnS.holds = false := by rw [hp]; rfl
      exact .next (h.of_aside haside haside rfl rfl rfl rfl (.of_idle hp))
    next => exact .next h

/-- R199: a host frame of a length that fits goes out from the sleeping SENDER. -/
theorem execSendTxn_keeps_senderSide (h : s.SenderSide) (hs : s.sstep = .sSleep) (f : Bytes) :
    (execSendTxn .sender f s).Gives State.SenderSide := by
  have hstep := sendStep_keeps_senderSide h
  unfold execSendTxn
  cases hp : s.txn .sender with
  | idle =>
    dsimp only
    split
    next hfits =>
      refine .next (h.of_aside ?_ rfl rfl rfl rfl rfl
        ⟨fun _ hd => absurd (hs.symm.trans hd) (by decide), by nofun, fun _ => hfits⟩)
      rw [show s.txnS = .idle from hp]
      rfl
    next => exact .next ⟨h.locked.raise _, { h.placed with }⟩
  | finish => exact .next h
  | _ => exact hstep

theorem exec_senderOp_keeps_senderSide (h : s.SenderSide) (hc : 26 ≤ s.cfg.maxFrameLen) :
    Result.Gives State.SenderSide (exec s.senderOp s) := by
  unfold State.senderOp
  cases hs : s.sstep with
  | sStartup => exact execStartup_keeps_senderSide h hc
  | sSync => exact execSync_keeps_senderSide h hc
  | sDiag => exact execSync_keeps_senderSide h hc
  | sSleep =>
    dsimp only
    split
    · exact execSync_keeps_senderSide h hc
    · exact execSendTxn_keeps_senderSide h hs s.txbufS

end

end Sys2Proof.Machine
end

section
/-! PROOF. R161 to R173, R194, R197: the RECEIVER's side of the machine's invariant. The engine's operations keep what
does not depend on the RECEIVER's step, and each step of POLL brings what the next one needs: a validated fragment to
`P_STORE`, a missing index past `P_COMPLETE`, an index to ask for to `P_REREQ`. The two sides together are the machine's
step. -/

namespace Sys2Proof.Machine
open Sys2Proof

/-! ### The engine's operations -/

section
variable {s : State}

theorem State.BufferInv.resetbuf (h : s.BufferInv) : s.resetbuf.BufferInv where
  expected_le := Nat.zero_le _
  retry_le := Nat.zero_le _
  idle_empty _ := ⟨rfl, rfl⟩
  collecting_present hne := absurd rfl hne
  slot_fits i hi := by
    rw [State.isPresent_of_cleared s.resetbuf_present] at hi
    cases hi
  memory_wf := h.memory_wf

theorem State.BufferInv.arriveAt (h : s.BufferInv) {i : Nat} (hi : isSlotIndex i = true) (last : Bool) {body : Bytes}
    (hb : body.length ≤ s.cfg.slotCap) : (s.arriveAt i last body).BufferInv := by
  obtain ⟨hmin, hmax⟩ := isSlotIndex_iff.mp hi
  have hcount : 1 ≤ (s.arriveAt i last body).expectedCount.toNat ∧
      (s.arriveAt i last body).expectedCount.toNat ≤ 16 := by
    have hle := h.expected_le
    rw [State.arriveAt_expectedCount, nextExpected_toNat _ hmax]
    split <;> omega
  refine ⟨hcount.2, ?_, fun hzero => ?_, fun _ => ⟨i, ?_⟩, fun j hj => ?_, ?_⟩
  · rw [State.arriveAt_retry]
    split
    · exact Nat.zero_le _
    · exact h.retry_le
  · rw [hzero] at hcount
    exact absurd hcount.1 (by decide)
  · rw [State.isPresent_arriveAt _ _ _ hi, decide_eq_true rfl, Bool.true_or]
  · rw [State.arriveAt_slotLength, State.arriveAt_cfg]
    by_cases hji : j = i
    · rw [hji, State.slotLength_storeSlot_same _ _ hi]
      exact hb
    · rw [State.slotLength_storeSlot_other _ _ hi hji, State.slotLength_congr s.beginSequence_slotLen]
      rw [State.isPresent_arriveAt _ _ _ hi, decide_eq_false hji, Bool.false_or, Bool.and_eq_true] at hj
      exact h.slot_fits j hj.2
  · rw [State.arriveAt_slotData]
    exact Memory.writeSlot_wf h.memory_wf _ _ _

/-- R165, R167: where the completion check does not fire, COLLECTING, some index is missing. -/
theorem State.lowestMissing_of_not_full (he : s.expectedCount ≠ 0) (hle : s.expectedCount.toNat ≤ 16)
    (hfull : ¬ s.sequenceFull = true) : s.lowestMissing.isSome = true := by
  have hpos : 0 < s.expectedCount.toNat := Nat.pos_of_ne_zero fun hz => he (BitVec.eq_of_toNat_eq hz)
  rw [State.lowestMissing_isSome]
  by_contra hnone
  push Not at hnone
  refine hfull (State.sequenceFull_iff.mpr ⟨hpos, ?_, fun i hmin hmax => ?_⟩)
  · have hnot16 : ¬ 16 ≤ s.expectedCount.toNat := fun h16 => (hnone 16 (by decide) h16).1 rfl
    omega
  · simpa using (hnone i hmin hmax).2

/-- R167: what a re-request asks for is an index of 1 to 16. -/
theorem State.chosenIndex_bounds (h : s.lowestMissing.isSome = true) (hle : s.expectedCount.toNat ≤ 16) :
    1 ≤ s.chosenIndex.toNat ∧ s.chosenIndex.toNat ≤ 16 := by
  obtain ⟨i, hi⟩ := Option.isSome_iff_exists.mp h
  obtain ⟨⟨hmin, hmax⟩, -⟩ := State.lowestMissing_eq_some.mp hi
  rw [State.chosenIndex_of_lowestMissing hi, BitVec.toNat_ofNat]
  omega

/-! ### The engine's invariant along POLL -/

/-- The RECEIVER may go on to any step that asks nothing of the engine. -/
theorem State.EngineInv.resumeAt (h : s.EngineInv) (hs : s.rstep ≠ .pComplete) {r : RStep} (hr : r ≠ .pRereq)
    (hr' : r ≠ .pStore) : (s.resumeAt r).EngineInv :=
  { h with
    collecting_missing := fun he _ => h.collecting_missing he hs
    req_index := fun hreq => absurd hreq hr
    store_validated := fun hstore => absurd hstore hr' }

theorem State.EngineInv.emit (h : s.EngineInv) (es : List Event) : (s.emit es).EngineInv := { h with }

/-- R161: ARRIVE leads to the completion check. -/
theorem State.EngineInv.arrives (h : s.EngineInv) (index : BitVec 7) (last : Bool) (body : Bytes) :
    ((s.arrive index last body).resumeAt .pComplete).EngineInv := by
  have hbuffer : (s.arrive index last body).BufferInv ∧
      (s.arrive index last body).rxbuf = s.rxbuf ∧ (s.arrive index last body).rxlen = s.rxlen := by
    obtain ⟨-, ha⟩ | ⟨-, -, ha⟩ | ⟨hi, hb, ha⟩ := s.arrive_cases index last body <;> rw [ha]
    · exact ⟨{ h with }, rfl, rfl⟩
    · exact ⟨{ h with }, rfl, rfl⟩
    · have hstored := h.bufferInv.arriveAt hi last hb
      refine ⟨{ hstored with }, ?_, ?_⟩ <;> rw [State.arriveAt_eq] <;> rfl
  obtain ⟨hb, hrxbuf, hrxlen⟩ := hbuffer
  exact { hb with
    collecting_missing := fun _ hne => absurd rfl hne
    req_index := by nofun
    store_validated := by nofun
    rx_length := by
      change (s.arrive index last body).rxbuf.length =
        min (s.arrive index last body).rxlen (s.arrive index last body).cfg.maxFrameLen
      rw [hrxbuf, hrxlen, State.arrive_cfg]
      exact h.rx_length }

/-- RESETBUF leaves an IDLE engine, of which no step asks anything. -/
theorem State.EngineInv.cleared (h : s.EngineInv) {r : RStep} (hr : r ≠ .pRereq) (hr' : r ≠ .pStore) :
    (s.resetbuf.resumeAt r).EngineInv :=
  { h.bufferInv.resetbuf with
    collecting_missing := fun hne => absurd rfl hne
    req_index := fun hreq => absurd hreq hr
    store_validated := fun hstore => absurd hstore hr'
    rx_length := h.rx_length }

/-- R165: past the completion check the engine is IDLE, or some index is missing. -/
theorem State.EngineInv.completes (h : s.EngineInv) : (s.complete.resumeAt .pRetry).EngineInv := by
  by_cases hfull : s.sequenceFull = true
  · rw [State.complete_of_full hfull]
    have hcleared := h.cleared (r := .pRetry) (by decide) (by decide)
    exact { hcleared with }
  · rw [State.complete_of_not_full hfull]
    exact { h with
      collecting_missing := fun he _ => State.lowestMissing_of_not_full he h.expected_le hfull
      req_index := by nofun
      store_validated := by nofun }

/-- R166, R167: TICK counts within the budget and picks an index that is missing, or leads to `P_SLEEP`. -/
theorem State.EngineInv.decides (h : s.EngineInv) (hs : s.rstep = .pRetry) (htick : s.tickOutcome = .rereq) :
    s.tick.EngineInv := by
  obtain ⟨hout, -⟩ | ⟨hout, -⟩ | ⟨-, htime, hle, ht⟩ := s.tick_cases
  · simp [hout] at htick
  · simp [hout] at htick
  · rw [ht]
    have he : s.expectedCount ≠ 0 := (State.timedOut_iff.mp htime).1
    have hmissing := h.collecting_missing he (by rw [hs]; decide)
    exact { h with
      retry_le := hle
      idle_empty := fun hzero => absurd hzero he
      collecting_missing := fun _ _ => hmissing
      req_index := fun _ => State.chosenIndex_bounds hmissing h.expected_le
      store_validated := by nofun }

theorem State.EngineInv.ticks (h : s.EngineInv) (hs : s.rstep = .pRetry) (htick : s.tickOutcome ≠ .rereq) :
    (s.tick.resumeAt .pSleep).EngineInv := by
  obtain ⟨-, -, ht⟩ | ⟨-, -, -, ht⟩ | ⟨hout, -⟩ := s.tick_cases
  · rw [ht]
    exact (h.emit _).resumeAt (by simp [State.emit, hs]) (by decide) (by decide)
  · rw [ht]
    have hcleared := h.cleared (r := .pSleep) (by decide) (by decide)
    exact { hcleared with }
  · exact absurd hout htick

theorem sendStep_keeps_engineInv (h : s.EngineInv) : (sendStep .receiver s).Gives State.EngineInv := by
  intro t ht
  obtain ⟨rfl, -⟩ | ⟨-, -, rfl⟩ | ⟨-, rfl⟩ | ⟨-, rfl⟩ | ⟨-, rfl⟩ | ⟨-, -, rfl⟩ := sendStep_eq_next ht
  · exact h
  all_goals exact { h with }

/-- R194: the receive-check writes the receive buffer. -/
theorem rxchkStep_keeps_engineInv (h : s.EngineInv) (hs : s.rstep = .pRxchk) : (rxchkStep s).Gives State.EngineInv := by
  intro t ht
  obtain ⟨rfl, -⟩ | ⟨-, -, rfl⟩ | ⟨-, rfl⟩ | ⟨-, rfl⟩ | ⟨got, -, -, rfl⟩ := rxchkStep_eq_next ht
  · exact h
  · exact { h with }
  · exact { h with }
  · exact { h with
      store_validated := fun hstore => absurd (hs.symm.trans hstore) (by decide)
      rx_length := (List.length_take ..).trans (Nat.min_comm ..) }
  · exact { h with }

end

/-! ### The RECEIVER's operations (R169, R194, R197) -/

/-- What the RECEIVER's operations keep of the invariant. -/
structure State.ReceiverSide (s : State) : Prop where
  locked : s.LockInv
  placed : s.ReceiverInv
  engine : s.EngineInv

/-- `s` with the engine's registers, the RECEIVER's step and sleep, and the record of `r`. -/
def State.withEngineOf (s r : State) : State :=
  { s with
    present := r.present
    slotLen := r.slotLen
    slotData := r.slotData
    expectedCount := r.expectedCount
    retry := r.retry
    lastActivity := r.lastActivity
    reqIndex := r.reqIndex
    rstep := r.rstep
    wakeR := r.wakeR
    sleepArmed := r.sleepArmed
    trace := r.trace }

section
variable {s t : State}

theorem State.arrive_withEngineOf (s : State) (index : BitVec 7) (last : Bool) (body : Bytes) :
    s.arrive index last body = s.withEngineOf (s.arrive index last body) := by
  obtain ⟨-, ha⟩ | ⟨-, -, ha⟩ | ⟨-, -, ha⟩ := s.arrive_cases index last body <;> rw [ha]
  · rfl
  · rfl
  · rw [State.arriveAt_eq]
    rfl

theorem State.complete_withEngineOf (s : State) : s.complete = s.withEngineOf s.complete := by
  obtain ⟨-, h⟩ | ⟨-, -, h⟩ | ⟨-, -, h⟩ := s.complete_cases <;> rw [h] <;> rfl

theorem State.tick_withEngineOf (s : State) : s.tick = s.withEngineOf s.tick := by
  obtain ⟨-, -, h⟩ | ⟨-, -, -, h⟩ | ⟨-, -, -, h⟩ := s.tick_cases <;> rw [h] <;> rfl

/-- Outside its transactions the RECEIVER may be at any step. -/
theorem State.ReceiverInv.of_idle (hR : s.txnR = .idle) (hx : s.rxPhase = .idle) : s.ReceiverInv := by
  constructor <;> simp [hR, hx, SendPhase.loaded]

theorem State.ReceiverInv.rxPhase_eq_idle (h : s.ReceiverInv) (hr : s.rstep ≠ .pRxchk) : s.rxPhase = .idle := by
  by_contra hx
  exact hr (h.rxchk_step hx)

theorem State.ReceiverInv.txnR_eq_idle (h : s.ReceiverInv) (hr : s.rstep ≠ .pRereq) : s.txnR = .idle := by
  by_contra hp
  exact hr (h.rereq_step hp).1

/-- Outside the transactions an operation of the engine, or a move of the RECEIVER, touches no place of the arbiter. -/
theorem State.ReceiverSide.of_engine (h : s.ReceiverSide) (hr : s.rstep ≠ .pRxchk) (hr' : s.rstep ≠ .pRereq)
    (ht : t = s.withEngineOf t) (he : t.EngineInv) : t.ReceiverSide := by
  have hside : (s.withEngineOf t).LockInv ∧ (s.withEngineOf t).ReceiverInv :=
    ⟨{ h.locked with }, .of_idle (h.placed.txnR_eq_idle hr') (h.placed.rxPhase_eq_idle hr)⟩
  rw [← ht] at hside
  exact ⟨hside.1, hside.2, he⟩

theorem rxchkStep_keeps_receiverSide (h : s.ReceiverSide) (hr : s.rstep = .pRxchk) :
    (rxchkStep s).Gives State.ReceiverSide := by
  have hR : s.txnR = .idle := h.placed.txnR_eq_idle (by rw [hr]; decide)
  intro t ht
  refine ⟨rxchkStep_keeps_lockInv h.locked hR t ht, ?_, rxchkStep_keeps_engineInv h.engine hr t ht⟩
  have hplace : t.rstep = s.rstep ∧ t.txnR = s.txnR := by
    obtain ⟨rfl, -⟩ | ⟨-, -, rfl⟩ | ⟨-, rfl⟩ | ⟨-, rfl⟩ | ⟨got, -, -, rfl⟩ := rxchkStep_eq_next ht <;> exact ⟨rfl, rfl⟩
  have htR : t.txnR = .idle := hplace.2.trans hR
  exact ⟨fun _ => hplace.1.trans hr, fun hp => absurd htR hp, fun hp => by rw [htR] at hp; cases hp⟩

theorem sendStep_keeps_receiverSide (h : s.ReceiverSide) (hr : s.rstep = .pRereq) :
    (sendStep .receiver s).Gives State.ReceiverSide := by
  have hx : s.rxPhase = .idle := h.placed.rxPhase_eq_idle (by rw [hr]; decide)
  intro t ht
  have hplace := sendStep_place .receiver s t ht
  refine ⟨sendStep_keeps_lockInv h.locked (fun _ => hx) t ht,
    ⟨fun hne => absurd (hplace.rxPhase.trans hx) hne, fun hp => ?_, fun hp => ?_⟩,
    sendStep_keeps_engineInv h.engine t ht⟩
  · exact ⟨hplace.rstep.trans hr, fun hf => (h.placed.rereq_step (hplace.inside hp)).2 (hplace.finish hf)⟩
  · have hbuf : t.txbufR = s.txbufR := hplace.txbuf
    rw [hbuf, hplace.cfg]
    exact h.placed.receiver_loaded (hplace.loaded hp)

/-- R169: the frame is built, sent, and stamped. -/
theorem rereq_keeps_receiverSide (h : s.ReceiverSide) (hc : 26 ≤ s.cfg.maxFrameLen) :
    Result.Gives State.ReceiverSide (exec .rereqSend s) := by
  by_cases hr : s.rstep = .pRereq
  · have hstep := sendStep_keeps_receiverSide h hr
    have hx : s.rxPhase = .idle := h.placed.rxPhase_eq_idle (by rw [hr]; decide)
    cases hp : s.txnR with
    | idle =>
      rw [rereq_builds hr hp]
      refine .next ⟨?_, ⟨fun hne => absurd hx hne, fun _ => ⟨hr, by nofun⟩, fun _ => ?_⟩, { h.engine with }⟩
      · exact h.locked.of_aside (a := .receiver) (by rw [State.txn, hp]; rfl) rfl rfl rfl
          (fun | .sender, _ => rfl | .receiver, hne => absurd rfl hne) rfl
      · exact frameFits_of_commandFrame hc (commandFrame_rerequest s.cfg _)
    | acquire => rwa [rereq_eq_sendStep hr (by simp [hp])]
    | leaveListen => rwa [rereq_eq_sendStep hr (by simp [hp])]
    | transmit => rwa [rereq_eq_sendStep hr (by simp [hp])]
    | restoreListen => rwa [rereq_eq_sendStep hr (by simp [hp])]
    | release =>
      have hl : s.lock = ownerOf .receiver := h.locked.lock_of_holds (a := .receiver) (by rw [State.txn, hp]; rfl)
      have hmirror : s.listen = !s.txnR.outOfListen := h.locked.listen_eq (a := .receiver) (.inr hl)
      rw [hp] at hmirror
      have hstamp := h.engine.resumeAt (by rw [hr]; decide) (r := .pStamp) (by decide) (by decide)
      rw [rereq_releases hr hp hl]
      refine .next ⟨?_, .of_idle rfl hx, { hstamp with }⟩
      exact h.locked.of_send (a := .receiver) (.inr hl) (fun _ => hx) rfl hmirror
        (fun | .sender, _ => rfl | .receiver, hne => absurd rfl hne) rfl
    | finish => exact absurd hp (h.placed.rereq_step (by rw [hp]; decide)).2
  · by_cases hstamp : s.rstep = .pStamp
    · have hsleep := h.engine.resumeAt (by rw [hstamp]; decide) (r := .pSleep) (by decide) (by decide)
      rw [rereq_stamps hstamp]
      exact .next (h.of_engine (by rw [hstamp]; decide) hr rfl { hsleep with })
    · rw [rereq_waits_elsewhere hr hstamp]
      exact .next h

/-! ### POLL (R197) -/

theorem poll_eq_rereqSend (hs : s.sstep ≠ .sStartup) (hr : s.rstep = .pRereq ∨ s.rstep = .pStamp) :
    exec .poll s = exec .rereqSend s := by
  change execPoll s = rereqStep s
  rw [execPoll, if_neg hs]
  obtain hr | hr := hr <;> simp only [hr]

theorem poll_decides (hs : s.sstep ≠ .sStartup) (hr : s.rstep = .pRetry) (ht : s.tickOutcome = .rereq) :
    exec .poll s = .next s.tick := by
  change execPoll s = _
  simp only [execPoll, if_neg hs, hr, ht]

theorem poll_ticks (hs : s.sstep ≠ .sStartup) (hr : s.rstep = .pRetry) (ht : s.tickOutcome ≠ .rereq) :
    exec .poll s = .next ({ s.tick with sleepArmed := false }.resumeAt .pSleep) := by
  change execPoll s = _
  simp only [execPoll, if_neg hs, hr]
  split
  next hout => exact absurd hout ht
  next => rfl
  next => rfl

theorem poll_arms (hs : s.sstep ≠ .sStartup) (hr : s.rstep = .pSleep) (ha : s.sleepArmed = false) :
    exec .poll s = .next ({ s with wakeR := s.now + Config.tickMs, sleepArmed := true }.raise .ok) := by
  change execPoll s = _
  simp only [execPoll, if_neg hs, hr, ha, Bool.false_eq_true, if_false]

theorem poll_sleeps (hs : s.sstep ≠ .sStartup) (hr : s.rstep = .pSleep) (ha : s.sleepArmed = true)
    (hw : reached s.now s.wakeR = false) : exec .poll s = .next s := by
  change execPoll s = _
  simp only [execPoll, if_neg hs, hr, ha, hw, Bool.false_eq_true, if_false, if_true]

theorem poll_wakes (hs : s.sstep ≠ .sStartup) (hr : s.rstep = .pSleep) (ha : s.sleepArmed = true)
    (hw : reached s.now s.wakeR = true) :
    exec .poll s = .next (({ s with sleepArmed := false }.resumeAt .pRxchk).raise .ok) := by
  change execPoll s = _
  simp only [execPoll, if_neg hs, hr, ha, hw, if_true]

theorem poll_keeps_receiverSide (h : s.ReceiverSide) (hc : 26 ≤ s.cfg.maxFrameLen) (hs : s.sstep ≠ .sStartup) :
    Result.Gives State.ReceiverSide (exec .poll s) := by
  cases hr : s.rstep with
  | pRxchk =>
    have hstep := rxchkStep_keeps_receiverSide h hr
    have hR : s.txnR = .idle := h.placed.txnR_eq_idle (by rw [hr]; decide)
    cases hx : s.rxPhase with
    | release got =>
      have hl : s.lock = .receiver := (h.locked.owns .receiver).mpr (by rw [State.holdsLock, hx]; exact Bool.or_true _)
      have hgo := h.engine.resumeAt (by rw [hr]; decide) (r := if got then .pValidate else .pRetry)
        (by cases got <;> decide) (by cases got <;> decide)
      rw [poll_releases hs hr hx hl]
      exact .next ⟨h.locked.of_rxchk (.inr hl) hR rfl rfl (fun a => by cases a <;> rfl), .of_idle hR rfl, { hgo with }⟩
    | idle => rwa [poll_eq_rxchkStep hs hr (by simp [hx])]
    | query => rwa [poll_eq_rxchkStep hs hr (by simp [hx])]
    | read => rwa [poll_eq_rxchkStep hs hr (by simp [hx])]
  | pRereq =>
    rw [poll_eq_rereqSend hs (.inl hr)]
    exact rereq_keeps_receiverSide h hc
  | pStamp =>
    rw [poll_eq_rereqSend hs (.inr hr)]
    exact rereq_keeps_receiverSide h hc
  | pValidate =>
    have hgoes {t : State} := h.of_engine (t := t) (by rw [hr]; decide) (by rw [hr]; decide)
    cases hv : validate s.cfg s.rxlen s.rxbuf with
    | ok f =>
      rw [poll_accepts hs hr hv]
      exact .next (hgoes rfl { h.engine with
        collecting_missing := fun he _ => h.engine.collecting_missing he (by rw [hr]; decide)
        req_index := by nofun
        store_validated := fun _ => ⟨f, hv⟩ })
    | error l =>
      have hretry := h.engine.resumeAt (by rw [hr]; decide) (r := .pRetry) (by decide) (by decide)
      rw [poll_drops hs hr hv]
      exact .next (hgoes rfl { hretry with })
  | pStore =>
    rw [poll_stores hs hr]
    refine .next (h.of_engine (by rw [hr]; decide) (by rw [hr]; decide) ?_ (h.engine.arrives _ _ _))
    exact congrArg (State.resumeAt · .pComplete) (s.arrive_withEngineOf _ _ _)
  | pComplete =>
    rw [poll_completes hs hr]
    refine .next (h.of_engine (by rw [hr]; decide) (by rw [hr]; decide) ?_ h.engine.completes)
    exact congrArg (State.resumeAt · .pRetry) s.complete_withEngineOf
  | pRetry =>
    have hgoes {t : State} := h.of_engine (t := t) (by rw [hr]; decide) (by rw [hr]; decide)
    by_cases ht : s.tickOutcome = .rereq
    · rw [poll_decides hs hr ht]
      exact .next (hgoes s.tick_withEngineOf (h.engine.decides hr ht))
    · rw [poll_ticks hs hr ht]
      have hsleep := h.engine.ticks hr ht
      refine .next (hgoes ?_ { hsleep with })
      exact congrArg (fun u : State => { u with sleepArmed := false, rstep := .pSleep }) s.tick_withEngineOf
  | pSleep =>
    have hgoes {t : State} := h.of_engine (t := t) (by rw [hr]; decide) (by rw [hr]; decide)
    cases ha : s.sleepArmed with
    | false =>
      rw [poll_arms hs hr ha]
      exact .next (hgoes rfl { h.engine with })
    | true =>
      cases hw : reached s.now s.wakeR with
      | false =>
        rw [poll_sleeps hs hr ha hw]
        exact .next h
      | true =>
        have hrxchk := h.engine.resumeAt (by rw [hr]; decide) (r := .pRxchk) (by decide) (by decide)
        rw [poll_wakes hs hr ha hw]
        exact .next (hgoes rfl { hrxchk with })

end

/-! ### The machine's step -/

section
variable {s u : State}

theorem State.Inv.senderSide (h : s.Inv) : s.SenderSide := ⟨h.arbiter.lockInv, h.arbiter.senderInv⟩

theorem State.Inv.receiverSide (h : s.Inv) : s.ReceiverSide := ⟨h.arbiter.lockInv, h.arbiter.receiverInv, h.engine⟩

/-- The parts together, with what holds before the SENDER has left `S_STARTUP` (R24, R257). -/
theorem State.Inv.of_sides (hc : 26 ≤ s.cfg.maxFrameLen) (hS : s.SenderSide) (hR : s.ReceiverSide)
    (hstart : s.sstep = .sStartup →
      s.rstep = .pRxchk ∧ s.rxPhase = .idle ∧ s.txnR = .idle ∧ s.expectedCount = 0) : s.Inv where
  frame_len := hc
  arbiter :=
    { hS.placed, hR.placed with
      sender_owns := hS.locked.owns .sender
      receiver_owns := hS.locked.owns .receiver
      listen_mirror := hS.locked.listen
      startup_first := hstart }
  engine := hR.engine

/-- R62: what writes neither the RECEIVER's own state nor the configuration, and never leads back to `S_STARTUP`, has
the SENDER's side of the invariant to keep. -/
theorem State.Inv.of_sender_step (h : s.Inv) (hkeep : u = u.withReceiverOf s) (hcfg : u.cfg = s.cfg)
    (hstart : s.sstep ≠ .sStartup → u.sstep ≠ .sStartup) (hu : u.SenderSide) : u.Inv := by
  have hsame : u = { u.withReceiverOf s with cfg := s.cfg } := by
    rw [← hcfg]
    exact hkeep
  have hreceiver : u.ReceiverInv ∧ u.EngineInv := by
    rw [hsame]
    exact ⟨{ h.arbiter.receiverInv with }, { h.engine with }⟩
  refine .of_sides (hcfg ▸ h.frame_len) hu ⟨hu.locked, hreceiver.1, hreceiver.2⟩ fun hs => ?_
  have hfirst := h.arbiter.startup_first (by_contra fun hne => hstart hne hs)
  rw [hkeep]
  exact hfirst

/-- R62: what writes neither the SENDER's own state nor the configuration has the RECEIVER's side to keep. -/
theorem State.Inv.of_receiver_step (h : s.Inv) (hkeep : u = u.withSenderOf s) (hcfg : u.cfg = s.cfg)
    (hs : s.sstep ≠ .sStartup) (hu : u.ReceiverSide) : u.Inv := by
  have hsame : u = { u.withSenderOf s with cfg := s.cfg } := by
    rw [← hcfg]
    exact hkeep
  have hsender : u.SenderInv := by
    rw [hsame]
    exact { h.arbiter.senderInv with }
  refine .of_sides (hcfg ▸ h.frame_len) ⟨hu.locked, hsender⟩ hu fun hstart => absurd ?_ hs
  rw [hkeep] at hstart
  exact hstart

theorem State.Inv.exec_senderOp (h : s.Inv) : Result.Gives State.Inv (exec s.senderOp s) := fun u hu => by
  obtain ⟨v, hv, hallowed⟩ := exec_senderOp_allowed h.arbiter.owned
  obtain rfl := Host.Outcome.next.inj (hu.symm.trans hv)
  exact h.of_sender_step (exec_senderOp_keeps_receiver hu) (exec_keepsCfg _ _ _ hu) hallowed.started
    (exec_senderOp_keeps_senderSide h.senderSide h.frame_len _ hu)

theorem State.Inv.exec_poll (h : s.Inv) : Result.Gives State.Inv (exec .poll s) := fun u hu => by
  by_cases hs : s.sstep = .sStartup
  · have hwaits : exec .poll s = .next s := if_pos hs
    obtain rfl := Host.Outcome.next.inj (hu.symm.trans hwaits)
    exact h
  · exact h.of_receiver_step (execPoll_keeps_sender hu) (exec_keepsCfg _ _ _ hu) hs
      (poll_keeps_receiverSide h.receiverSide h.frame_len hs _ hu)

/-- The HOST's requests and the record are no part of the invariant. -/
theorem State.Inv.record (h : s.Inv) (rs : List Request) (es : List Event) :
    ({ s with requests := rs }.emit es).Inv :=
  ⟨h.frame_len, { h.arbiter with }, { h.engine with }⟩

theorem execSendTxn_keeps_receiver {f : Bytes} (h : execSendTxn .sender f s = .next u) : u = u.withReceiverOf s := by
  have hcomm : execSendTxn .sender f s = (execSendTxn .sender f s).andThen (·.withReceiverOf s) :=
    execSendTxn_sender_withReceiverOf s s f
  rw [h] at hcomm
  exact Host.Outcome.next.inj hcomm

/-- R199: what the HOST may request is pure, or a frame for the sleeping SENDER. -/
theorem State.Inv.exec_host (h : s.Inv) {i : Instr} (hmay : hostMay i = true) (hready : s.hostReady i = true)
    (rs : List Request) : Result.Gives State.Inv (exec i { s with requests := rs }) := fun u hu => by
  have hq : ({ s with requests := rs } : State).Inv := ⟨h.frame_len, { h.arbiter with }, { h.engine with }⟩
  obtain ⟨r, hr⟩ | ⟨f, rfl⟩ := exec_of_hostMay hmay { s with requests := rs }
  · obtain rfl := Host.Outcome.next.inj (hu.symm.trans hr)
    rw [State.answer_eq]
    exact h.record rs _
  · simp only [State.hostReady, Bool.and_eq_true, decide_eq_true_eq] at hready
    obtain ⟨v, hv, hallowed⟩ := execSendTxn_allowed hq.arbiter.owned .sender f
    obtain rfl := Host.Outcome.next.inj (hu.symm.trans hv)
    exact hq.of_sender_step (execSendTxn_keeps_receiver hu) (exec_keepsCfg _ _ _ hu) hallowed.started
      (execSendTxn_keeps_senderSide hq.senderSide hready.1 f _ hu)

theorem State.Inv.step (h : s.Inv) : Result.Gives State.Inv (step s) := fun u hu => by
  have htake : s.TakesInput s.sample := State.takesInput_iff_sample.mpr rfl
  have ht := h.takesInput htake
  cases hturn : s.sample.port.turn with
  | sender =>
    rw [step_of_sender_turn htake hturn, ← htake.senderOp_eq] at hu
    exact ht.exec_senderOp u hu
  | receiver =>
    rw [step_of_receiver_turn htake hturn] at hu
    exact ht.exec_poll u hu
  | host =>
    rw [step_of_takesInput htake, State.select, hturn] at hu
    dsimp only at hu
    obtain ⟨-, hsel⟩ | ⟨r, rs, -, hcase⟩ := s.sample.selectHost_cases
    · rw [hsel] at hu
      obtain rfl := Host.Outcome.next.inj hu
      exact ht
    · obtain ⟨e, -, hsel⟩ | ⟨i, -, -, hsel⟩ | ⟨i, -, hmay, hready, hsel⟩ | ⟨i, -, -, -, hsel⟩ := hcase <;>
        rw [hsel] at hu
      · obtain rfl := Host.Outcome.next.inj hu
        exact ht.record rs _
      · obtain rfl := Host.Outcome.next.inj hu
        exact ht.record rs _
      · exact ht.exec_host hmay hready rs u hu
      · obtain rfl := Host.Outcome.next.inj hu
        exact ht

end

/-- Settles O52: each turn keeps the invariant. -/
theorem stepKeepsTheMachineInvariant : Obligations.StepKeepsTheMachineInvariant := fun _ t h hstep => h.step t hstep

end Sys2Proof.Machine
end

section
/-! PROOF. R166, R170, R174: the retry counter counts the re-requests. A step within a sequence keeps the counter and
records no REREQ, or is TICK's re-request, which raises it by one and records one, or leaves the engine IDLE. -/

namespace Sys2Proof.Machine
open Sys2Proof

/-- The step from `s` to `t` keeps the retry counter and records no REREQ. -/
structure State.SameRetries (s t : State) : Prop where
  retry : t.retry = s.retry
  recorded : ∃ new, t.trace = s.trace ++ new ∧ .label .rereq ∉ new

/-- It raises the retry counter by one and records one REREQ. -/
structure State.OneRetry (s t : State) : Prop where
  retry : t.retry = s.retry + 1
  recorded : t.trace = s.trace ++ [.label .rereq]

/-! ### The rules of `SameRetries` -/

section
variable {s t : State}

theorem State.SameRetries.of_eq (hr : t.retry = s.retry) (ht : t.trace = s.trace) : s.SameRetries t :=
  ⟨hr, [], by simp [ht], by simp⟩

theorem State.SameRetries.refl (s : State) : s.SameRetries s := .of_eq rfl rfl

theorem State.SameRetries.of_label {l : Label} (hl : l ≠ .rereq) (hr : t.retry = s.retry)
    (ht : t.trace = s.trace ++ [.label l]) : s.SameRetries t :=
  ⟨hr, [.label l], ht, by simpa using hl.symm⟩

theorem Result.Gives.andThen_sameRetries {r : Result} {f : State → State} (h : r.Gives s.SameRetries)
    (hr : ∀ u, (f u).retry = u.retry) (ht : ∀ u, (f u).trace = u.trace) : (r.andThen f).Gives s.SameRetries := by
  intro t h'
  obtain ⟨u, hu, rfl⟩ := Result.andThen_eq_next h'
  obtain ⟨hretry, new, htrace, hnew⟩ := h u hu
  exact ⟨(hr u).trans hretry, new, (ht u).trans htrace, hnew⟩

/-! ### The refusals of the pure operations (R226) are no REREQ -/

theorem State.answer_sameRetries (s : State) {r : Except Label Value} (h : r ≠ .error .rereq) :
    s.SameRetries (s.answer r) := by
  cases r with
  | ok v => exact ⟨rfl, [.returned v, .label .ok], rfl, by simp⟩
  | error l => exact .of_label (fun hl => h (congrArg Except.error hl)) rfl rfl

theorem map_ne_rereq {r : Except Label Bytes} (h : r ≠ .error .rereq) : r.map Value.bytes ≠ .error .rereq := by
  cases r with
  | ok b => nofun
  | error l => exact fun hl => h (congrArg Except.error (Except.error.inj hl))

theorem buildControlOp_ne_rereq (op : ControlOp) (data : Option Nat) (m : Nat) :
    buildControlOp op data m ≠ .error .rereq := by
  unfold buildControlOp
  split <;> nofun

theorem buildControl_ne_rereq (n : Nat) (data : Option Nat) (m : Nat) : buildControl n data m ≠ .error .rereq := by
  unfold buildControl
  split
  · exact buildControlOp_ne_rereq _ _ _
  · nofun

theorem plimit_ne_rereq (n : Nat) (relative persist : Bool) : plimit n relative persist ≠ .error .rereq := by
  unfold plimit
  split
  · exact buildControlOp_ne_rereq _ _ _
  · nofun

theorem encodeFrame_ne_rereq (c : Params) (type : Byte) (dst src : Word) (fid : Byte) (p : Bytes) :
    encodeFrame c type dst src fid p ≠ .error .rereq := by
  unfold encodeFrame
  split <;> nofun

theorem commandFrame_ne_rereq (c : Params) (k : CmdFrame) : commandFrame c k ≠ .error .rereq := by
  cases k <;> exact encodeFrame_ne_rereq _ _ _ _ _ _

theorem startupFrame_ne_rereq (c : Params) : startupFrame c ≠ .error .rereq := by
  unfold startupFrame
  split
  next => exact commandFrame_ne_rereq _ _
  next l hl => exact hl ▸ plimit_ne_rereq _ _ _

theorem validate_ne_rereq (c : Params) (n : Nat) (raw : Bytes) : validate c n raw ≠ .error .rereq := by
  unfold validate
  split
  · nofun
  · split
    · nofun
    · split <;> nofun

/-! ### The SENDER's operations and the two transactions -/

theorem sendStep_sameRetries (a : Activity) (s : State) : (sendStep a s).Gives s.SameRetries := by
  intro t h
  obtain ⟨rfl, -⟩ | ⟨-, -, rfl⟩ | ⟨-, rfl⟩ | ⟨-, rfl⟩ | ⟨-, rfl⟩ | ⟨-, -, rfl⟩ := sendStep_eq_next h
  · exact .refl _
  · exact .of_label (l := .ok) (by decide) (by simp) (by simp)
  · exact ⟨by simp, [.setListenMode a false, .label .ok], by simp, by simp⟩
  · refine ⟨by simp, [.sendFragment a (s.txbuf a) s.port.ack, .label (ackLabel s.port.ack)], by simp, ?_⟩
    cases s.port.ack <;> simp [ackLabel]
  · exact ⟨by simp, [.setListenMode a true, .label .ok], by simp, by simp⟩
  · exact .of_label (l := .ok) (by decide) (by simp) (by simp)

theorem rxchkStep_sameRetries (s : State) : (rxchkStep s).Gives s.SameRetries := by
  intro t h
  obtain ⟨rfl, -⟩ | ⟨-, -, rfl⟩ | ⟨-, rfl⟩ | ⟨-, rfl⟩ | ⟨-, -, -, rfl⟩ := rxchkStep_eq_next h
  · exact .refl _
  · exact .of_label (l := .ok) (by decide) rfl rfl
  · exact ⟨rfl, [.isFragmentAvailable .receiver s.port.available, .label .ok], by simp, by simp⟩
  · exact ⟨rfl, [.readFragment .receiver s.port.fragment, .label .ok], by simp [State.readFragment], by simp⟩
  · exact .of_label (l := .ok) (by decide) rfl rfl

theorem execSendTxn_sameRetries (a : Activity) (f : Bytes) (s : State) : (execSendTxn a f s).Gives s.SameRetries := by
  unfold execSendTxn
  cases s.txn a with
  | idle =>
    dsimp only
    split
    · exact .next (.of_label (l := .ok) (by decide) (by simp) (by simp))
    · exact .next (.of_label (l := .refuseBadOperand) (by decide) rfl rfl)
  | finish => exact .next (.refl s)
  | _ => exact sendStep_sameRetries a s

theorem execStartup_sameRetries (s : State) : (execStartup s).Gives s.SameRetries := by
  unfold execStartup
  cases s.sstep with
  | sStartup =>
    cases s.txnS with
    | idle =>
      have hlabel := startupFrame_ne_rereq s.cfg
      cases hf : startupFrame s.cfg with
      | ok f => exact .next (.of_label (l := .ok) (by decide) rfl rfl)
      | error l => exact .next (.of_label (l := l) (fun hl => hlabel (hl ▸ hf)) rfl rfl)
    | release => exact (sendStep_sameRetries .sender s).andThen_sameRetries (fun _ => rfl) fun _ => rfl
    | finish => exact .next (.of_label (l := .ok) (by decide) rfl rfl)
    | _ => exact sendStep_sameRetries .sender s
  | _ => exact .next (.refl s)

theorem execSync_sameRetries (s : State) : (execSync s).Gives s.SameRetries := by
  unfold execSync
  cases s.sstep with
  | sStartup => exact .next (.refl s)
  | sSync =>
    cases s.txnS with
    | idle =>
      have hlabel := commandFrame_ne_rereq s.cfg (.timesync (tsync s.port.unixSeconds))
      cases hf : commandFrame s.cfg (.timesync (tsync s.port.unixSeconds)) with
      | ok f => exact .next (.of_label (l := .ok) (by decide) rfl rfl)
      | error l => exact .next (.of_label (l := l) (fun hl => hlabel (hl ▸ hf)) rfl rfl)
    | release => exact (sendStep_sameRetries .sender s).andThen_sameRetries (fun _ => rfl) fun _ => rfl
    | finish => exact .next (.refl s)
    | _ => exact sendStep_sameRetries .sender s
  | sDiag => exact .next (.of_label (l := .ok) (by decide) rfl rfl)
  | sSleep =>
    dsimp only
    split
    · exact .next (.of_label (l := .ok) (by decide) rfl rfl)
    · exact .next (.refl s)

theorem exec_senderOp_sameRetries (s : State) : Result.Gives s.SameRetries (exec s.senderOp s) := by
  unfold State.senderOp
  split
  next => exact execStartup_sameRetries s
  next => exact execSync_sameRetries s
  next => exact execSync_sameRetries s
  next =>
    split
    · exact execSync_sameRetries s
    · exact execSendTxn_sameRetries .sender s.txbufS s

/-- R199: nor is what the HOST may request a re-request. -/
theorem exec_sameRetries_of_hostMay {i : Instr} (h : hostMay i = true) (s : State) :
    Result.Gives s.SameRetries (exec i s) := by
  cases i with
  | ctrlOn d m | ctrlOff d m | ctrlRestoreLastAction d m | ctrlLock d m | ctrlUnlock d m | ctrlActivePowerLimit d m
  | ctrlReactivePowerLimit d m | ctrlPowerFactor d m | ctrlLockAndAlarm d m | ctrlSelfInspect d m =>
    exact .next (s.answer_sameRetries (map_ne_rereq (buildControlOp_ne_rereq _ _ _)))
  | buildControl n d m => exact .next (s.answer_sameRetries (map_ne_rereq (buildControl_ne_rereq _ _ _)))
  | plimit n r p => exact .next (s.answer_sameRetries (map_ne_rereq (plimit_ne_rereq _ _ _)))
  | frame | encode => exact .next (s.answer_sameRetries (map_ne_rereq (encodeFrame_ne_rereq _ _ _ _ _ _)))
  | cmdframe k => exact .next (s.answer_sameRetries (map_ne_rereq (commandFrame_ne_rereq _ _)))
  | rxfrag | chk8 | decode =>
    refine .next (s.answer_sameRetries ?_)
    split <;> nofun
  | fid | ctrl2 | ctrl6 | ts13 | req0 | crc16 | crc8 | chk16 | tsync | req =>
    exact .next (s.answer_sameRetries (by nofun))
  | sendTxn a f => exact execSendTxn_sameRetries a f s
  | resetbuf | arrive | complete | tick | abandon | rereqSend | acquire | release | rxchkTxn | startup | sync | poll
  | diag => cases h

/-! ### The RECEIVER's operations -/

theorem rereqStep_sameRetries (s : State) : (rereqStep s).Gives s.SameRetries := by
  unfold rereqStep
  cases s.rstep with
  | pRereq =>
    cases s.txnR with
    | idle =>
      have hlabel := commandFrame_ne_rereq s.cfg (.rerequest (s.reqIndex.setWidth 8))
      cases hf : s.rereqFrame with
      | ok f => exact .next (.of_label (l := .ok) (by decide) rfl rfl)
      | error l => exact .next (.of_label (l := l) (fun hl => hlabel (hl ▸ hf)) rfl rfl)
    | release => exact (sendStep_sameRetries .receiver s).andThen_sameRetries (fun _ => rfl) fun _ => rfl
    | finish => exact .next (.refl s)
    | _ => exact sendStep_sameRetries .receiver s
  | pStamp => exact .next (.of_label (l := .ok) (by decide) rfl rfl)
  | _ => exact .next (.refl s)

/-- R161, R170: in COLLECTING an arrival keeps the counter. -/
theorem State.arrive_sameRetries (he : s.expectedCount ≠ 0) (index : BitVec 7) (last : Bool) (body : Bytes) :
    s.SameRetries (s.arrive index last body) := by
  obtain ⟨-, ha⟩ | ⟨-, -, ha⟩ | ⟨-, -, ha⟩ := s.arrive_cases index last body <;> rw [ha]
  · exact .of_label (l := .dropIndex) (by decide) rfl rfl
  · exact .of_label (l := .dropLength) (by decide) rfl rfl
  · refine .of_label (l := .ok) (by decide) ?_ ?_
    · rw [State.raise_retry, State.arriveAt_retry, if_neg he]
    · rw [State.arriveAt_eq]
      rfl

/-- What a step within a sequence does to the retry counter and the record, unless it ends the sequence. -/
def State.CountsRereqs (s t : State) : Prop := s.SameRetries t ∨ s.OneRetry t ∨ t.expectedCount = 0

theorem Result.Gives.counts {r : Result} (h : r.Gives s.SameRetries) : r.Gives s.CountsRereqs :=
  fun t ht => .inl (h t ht)

/-- R165: the completion check ends the sequence or leaves it. -/
theorem State.complete_counts (s : State) (r : RStep) : s.CountsRereqs (s.complete.resumeAt r) := by
  by_cases hfull : s.sequenceFull = true
  · rw [State.complete_of_full hfull]
    exact .inr (.inr rfl)
  · rw [State.complete_of_not_full hfull]
    exact .inl (.of_label (l := .ok) (by decide) rfl rfl)

/-- R166: TICK's re-request is counted and recorded; its other outcomes end the sequence or leave it. -/
theorem execPoll_counts (he : s.expectedCount ≠ 0) : (execPoll s).Gives s.CountsRereqs := by
  unfold execPoll
  split
  next => exact .next (.inl (.refl s))
  next =>
    cases s.rstep with
    | pRxchk =>
      have hstep := rxchkStep_sameRetries s
      cases s.rxPhase with
      | release got =>
        refine Result.Gives.counts ?_
        exact hstep.andThen_sameRetries (fun _ => rfl) fun _ => rfl
      | _ => exact hstep.counts
    | pValidate =>
      have hlabel := validate_ne_rereq s.cfg s.rxlen s.rxbuf
      cases hv : validate s.cfg s.rxlen s.rxbuf with
      | ok f => exact .next (.inl (.of_label (l := .ok) (by decide) rfl rfl))
      | error l => exact .next (.inl (.of_label (l := l) (fun hl => hlabel (hl ▸ hv)) rfl rfl))
    | pStore =>
      obtain ⟨hretry, hrecorded⟩ := State.arrive_sameRetries he (decodeFragment s.rxbuf).index
        (decodeFragment s.rxbuf).last (decodeFragment s.rxbuf).body
      exact .next (.inl ⟨hretry, hrecorded⟩)
    | pComplete => exact .next (s.complete_counts .pRetry)
    | pRetry =>
      obtain ⟨hout, -, ht⟩ | ⟨hout, -, -, ht⟩ | ⟨hout, -, -, ht⟩ := s.tick_cases <;> rw [hout, ht]
      · exact .next (.inl (.of_label (l := .ok) (by decide) rfl rfl))
      · exact .next (.inr (.inr rfl))
      · exact .next (.inr (.inl ⟨rfl, rfl⟩))
    | pRereq => exact (rereqStep_sameRetries s).counts
    | pStamp => exact (rereqStep_sameRetries s).counts
    | pSleep =>
      dsimp only
      split
      next =>
        split
        · exact .next (.inl (.of_label (l := .ok) (by decide) rfl rfl))
        · exact .next (.inl (.refl s))
      next => exact .next (.inl (.of_label (l := .ok) (by decide) rfl rfl))

/-! ### The machine's step -/

theorem rejectLabel_ne_rereq (e : DecodeError) : rejectLabel e ≠ .rereq := by
  cases e <;> decide

theorem step_sameRetries_of_host_turn (h : s.TakesInput t) (hturn : t.port.turn = .host) :
    Result.Gives t.SameRetries (step s) := by
  rw [step_of_takesInput h, State.select, hturn]
  dsimp only
  obtain ⟨-, hsel⟩ | ⟨r, rs, -, hcase⟩ := t.selectHost_cases
  · rw [hsel]
    exact .next (.refl t)
  · obtain ⟨e, -, hsel⟩ | ⟨i, -, -, hsel⟩ | ⟨i, -, hmay, -, hsel⟩ | ⟨i, -, -, -, hsel⟩ := hcase <;> rw [hsel]
    · exact .next (.of_label (rejectLabel_ne_rereq e) rfl rfl)
    · exact .next (.of_label (l := .refuseBadOpcode) (by decide) rfl rfl)
    · intro u hu
      obtain ⟨hretry, hrecorded⟩ := exec_sameRetries_of_hostMay hmay { t with requests := rs } u hu
      exact ⟨hretry, hrecorded⟩
    · exact .next (.refl t)

theorem step_counts (he : s.expectedCount ≠ 0) : Result.Gives s.CountsRereqs (step s) := by
  have htake : s.TakesInput s.sample := State.takesInput_iff_sample.mpr rfl
  have hcounts : Result.Gives s.sample.CountsRereqs (step s) := by
    cases hturn : s.sample.port.turn with
    | sender =>
      rw [step_of_sender_turn htake hturn, ← htake.senderOp_eq]
      exact (exec_senderOp_sameRetries s.sample).counts
    | receiver =>
      rw [step_of_receiver_turn htake hturn]
      exact execPoll_counts (by rwa [State.takesInput_frame htake])
    | host => exact (step_sameRetries_of_host_turn htake hturn).counts
  intro t ht
  have hsample := State.takesInput_frame htake
  rw [hsample] at hcounts
  obtain ⟨hretry, hrecorded⟩ | ⟨hretry, hrecorded⟩ | hidle := hcounts t ht
  · exact .inl ⟨hretry, hrecorded⟩
  · exact .inr (.inl ⟨hretry, hrecorded⟩)
  · exact .inr (.inr hidle)

end

/-- Settles O58: the counter and the record go up together, and the invariant bounds the counter. -/
theorem retryCountsTheRerequests : Obligations.RetryCountsTheRerequests := by
  intro s t hinv hstep hs ht
  have hbound : t.retry.toNat ≤ 5 := (hinv.step t hstep).engine.retry_le
  obtain ⟨hretry, new, hrecorded, hnew⟩ | ⟨hretry, hrecorded⟩ | hidle := step_counts hs t hstep
  · refine ⟨hbound, ?_, hretry ▸ le_rfl⟩
    rw [hrecorded, List.count_append, List.count_eq_zero.mpr hnew, hretry, Nat.sub_self]
  · have hnext : t.retry.toNat = s.retry.toNat + 1 := by
      have hle := hinv.engine.retry_le
      rw [hretry, BitVec.toNat_add]
      exact Nat.mod_eq_of_lt (by simp; omega)
    refine ⟨hbound, ?_, by omega⟩
    rw [hrecorded, List.count_append, List.count_singleton_self, hnext, Nat.add_sub_cancel_left]
  · exact absurd hidle ht

end Sys2Proof.Machine
end

section
/-! PROOF. R190 to R194: the arbiter's operations. ACQUIRE and RELEASE are their tests of the lock; the two transactions go
through their places one after the other, SEND_TXN's by the rules of `sendStep`. What a send transaction does between the
loaded buffer and its RELEASE is one run of four steps, whichever operation takes them. -/

namespace Sys2Proof.Machine
open Sys2Proof

/-! ### ACQUIRE and RELEASE (R190, R191) -/

section
variable {a : Activity} {s : State}

theorem acquire_takes (hl : s.lock = .free) :
    exec (.acquire a) s = .next { s with lock := ownerOf a, trace := s.trace ++ [.label .ok] } := by
  change execAcquire a s = _
  simp only [execAcquire, State.acquire_of_free hl]
  rfl

theorem acquire_waits (hl : s.lock ≠ .free) : exec (.acquire a) s = .next s := by
  change execAcquire a s = _
  simp only [execAcquire, State.acquire_of_held hl]

theorem release_frees (hl : s.lock = ownerOf a) :
    exec (.release a) s = .next { s with lock := .free, trace := s.trace ++ [.label .ok] } := by
  change execRelease a s = _
  rw [execRelease, State.release_of_owner hl]
  rfl

theorem release_stops (hl : s.lock ≠ ownerOf a) : exec (.release a) s = .fault .releaseByNonOwner := by
  change execRelease a s = _
  rw [execRelease, State.release_of_not_owner hl]
  rfl

end

/-- Settles O33: ACQUIRE's two cases. -/
theorem acquireTakesAFreeLock : Obligations.AcquireTakesAFreeLock := by
  refine fun a s => ⟨fun hl => ?_, acquire_waits⟩
  rw [acquire_takes hl]
  cases a <;> rfl

/-- Settles O34: RELEASE's two cases, for each activity. -/
theorem releaseOnlyByTheOwner : Obligations.ReleaseOnlyByTheOwner := fun _ =>
  ⟨release_frees (a := .sender), release_frees (a := .receiver), release_stops (a := .sender),
    release_stops (a := .receiver)⟩

/-! ### SEND_TXN (R193) -/

/-- The places of a send transaction from the loaded buffer up to the restored listen mode. -/
def SendPhase.BeforeRelease (p : SendPhase) : Prop :=
  p = .acquire ∨ p = .leaveListen ∨ p = .transmit ∨ p = .restoreListen

theorem State.setTxn_emit (s : State) (a : Activity) (p : SendPhase) (es : List Event) :
    (s.emit es).setTxn a p = (s.setTxn a p).emit es := by
  cases a <;> rfl

section
variable {a : Activity} {f : Bytes} {s : State}

theorem frameFits_iff {c : Params} : frameFits c f = true ↔ 11 ≤ f.length ∧ f.length ≤ c.maxFrameLen := by
  rw [frameFits, Bool.and_eq_true, decide_eq_true_eq, decide_eq_true_eq, Config.minFrameLen]

theorem sendTxn_loads (hp : s.txn a = .idle) (hmin : 11 ≤ f.length) (hmax : f.length ≤ s.cfg.maxFrameLen) :
    exec (.sendTxn a f) s = .next (((s.setTxbuf a f).setTxn a .acquire).emit [.label .ok]) := by
  change execSendTxn a f s = _
  simp only [execSendTxn, hp, frameFits_iff.mpr ⟨hmin, hmax⟩, if_true]
  rfl

/-- Once its buffer is loaded SEND_TXN is the send transaction's next step. -/
theorem sendTxn_eq_sendStep (hp : (s.txn a).BeforeRelease ∨ s.txn a = .release) :
    exec (.sendTxn a f) s = sendStep a s := by
  change execSendTxn a f s = _
  obtain (hp | hp | hp | hp) | hp := hp <;> simp only [execSendTxn, hp]

theorem sendTxn_rests (hp : s.txn a = .finish) : exec (.sendTxn a f) s = .next s := by
  change execSendTxn a f s = _
  simp only [execSendTxn, hp]

end

/-- Settles O35: after the load each place has its rule of `sendStep`. -/
theorem sendTxnSteps : Obligations.SendTxnSteps := by
  refine fun a f s => ⟨sendTxn_loads, fun hp hl => ?_, fun hp hl => ?_, fun hp => ?_, fun hp => ?_, fun hp => ?_,
    fun hp hl => ?_, fun hp hl => ?_, sendTxn_rests⟩ <;> rw [sendTxn_eq_sendStep (by simp [SendPhase.BeforeRelease, hp])]
  · exact sendStep_acquires hp hl
  · exact sendStep_waits hp hl
  · rw [sendStep_leavesListen hp, State.setListen, State.setTxn_emit, State.raise, State.emit_emit]
    rfl
  · rw [sendStep_transmits hp, State.setTxn_emit, State.raise, State.emit_emit]
    rfl
  · rw [sendStep_restoresListen hp, State.setListen, State.setTxn_emit, State.raise, State.emit_emit]
    rfl
  · exact sendStep_releases hp hl
  · exact sendStep_stops hp hl

/-- R193, R200 (b): from a free lock, an operation that is the send transaction's next step up to its RELEASE makes the
three channel calls in four steps, ends before the RELEASE with `listen = 1`, and changes nothing else. -/
theorem execTimes_sends {a : Activity} {i : Instr} {s : State}
    (hi : ∀ t : State, t.sstep = s.sstep → (t.txn a).BeforeRelease → exec i t = sendStep a t)
    (hp : s.txn a = .acquire) (hl : s.lock = .free) (n : Nat) :
    execTimes (n + 4) i s = execTimes n i (({ s with lock := ownerOf a, listen := true }.setTxn a .release).emit
      [.label .ok, .setListenMode a false, .label .ok,
       .sendFragment a (s.txbuf a) s.port.ack, .label (if s.port.ack then .ok else .sendUnacked),
       .setListenMode a true, .label .ok]) := by
  have hstep : ∀ {t u : State} {m : Nat}, t.sstep = s.sstep → (t.txn a).BeforeRelease → sendStep a t = .next u →
      execTimes (m + 1) i t = execTimes m i u := fun hs hat h => execTimes_succ_of_next ((hi _ hs hat).trans h)
  rw [hstep rfl (.inl hp) (sendStep_acquires hp hl),
    hstep (by simp) (.inr (.inl (by simp))) (sendStep_leavesListen (by simp)),
    hstep (by simp [State.setListen]) (.inr (.inr (.inl (by simp)))) (sendStep_transmits (by simp)),
    hstep (by simp [State.setListen]) (.inr (.inr (.inr (by simp)))) (sendStep_restoresListen (by simp))]
  congr 1
  cases a <;> simp [State.raise, State.setListen, State.setTxn, State.emit, State.txbuf, ackLabel]

/-- Settles O36: the load, the four steps up to the RELEASE, and the RELEASE. -/
theorem sendTxnMakesThreeCalls : Obligations.SendTxnMakesThreeCalls := by
  intro a f s hp hl hmin hmax
  rw [execTimes_succ_of_next (sendTxn_loads hp hmin hmax),
    execTimes_sends (fun _ _ hat => sendTxn_eq_sendStep (.inl hat)) (by simp) (by simpa using hl) 1,
    execTimes_succ_of_next ((sendTxn_eq_sendStep (.inr (by simp))).trans (sendStep_releases (by simp) (by simp)))]
  cases a with
  | sender =>
    have hp : s.txnS = .idle := hp
    simp [execTimes, State.raise, State.emit, State.setTxn, State.setTxbuf, State.txbuf, hp, hl]
  | receiver =>
    have hp : s.txnR = .idle := hp
    simp [execTimes, State.raise, State.emit, State.setTxn, State.setTxbuf, State.txbuf, hp, hl]

/-! ### RXCHK_TXN (R194) -/

section
variable {s : State} {got : Bool}

theorem rxchkStep_releases (hx : s.rxPhase = .release got) (hl : s.lock = .receiver) :
    rxchkStep s = .next ({ s with lock := .free, rxPhase := .idle }.raise .ok) := by
  simp only [rxchkStep, hx, State.release_of_owner (a := .receiver) hl]
  rfl

theorem rxchkStep_stops (hx : s.rxPhase = .release got) (hl : s.lock ≠ .receiver) :
    rxchkStep s = .fault .releaseByNonOwner := by
  simp only [rxchkStep, hx, State.release_of_not_owner (a := .receiver) hl]
  rfl

/-- Up to its RELEASE RXCHK_TXN is the receive-check's next step. -/
theorem rxchkTxn_eq_rxchkStep (hx : ∀ got, s.rxPhase ≠ .release got) : exec .rxchkTxn s = rxchkStep s := by
  change execRxchkTxn s = _
  unfold execRxchkTxn
  split
  next got hgot => exact absurd hgot (hx got)
  next => rfl
  next => rfl
  next => rfl

theorem rxchkTxn_acquires (hx : s.rxPhase = .idle) (hl : s.lock = .free) :
    exec .rxchkTxn s = .next { s with lock := .receiver, rxPhase := .query, trace := s.trace ++ [.label .ok] } := by
  rw [rxchkTxn_eq_rxchkStep (by simp [hx])]
  simp only [hx, rxchkStep, State.acquire_of_free hl]
  rfl

theorem rxchkTxn_waits (hx : s.rxPhase = .idle) (hl : s.lock ≠ .free) : exec .rxchkTxn s = .next s := by
  rw [rxchkTxn_eq_rxchkStep (by simp [hx])]
  simp only [hx, rxchkStep, State.acquire_of_held hl]

theorem rxchkTxn_queries (hx : s.rxPhase = .query) :
    exec .rxchkTxn s = .next { s with
      rxPhase := if s.port.available then .read else .release false
      trace := s.trace ++ [.isFragmentAvailable .receiver s.port.available, .label .ok] } := by
  rw [rxchkTxn_eq_rxchkStep (by simp [hx])]
  simp only [hx, rxchkStep, State.raise, State.emit_emit]
  rfl

theorem rxchkTxn_reads (hx : s.rxPhase = .read) :
    exec .rxchkTxn s = .next { s with
      rxbuf := s.port.fragment.take s.cfg.maxFrameLen, rxlen := s.port.fragment.length,
      rxPhase := .release true,
      trace := s.trace ++ [.readFragment .receiver s.port.fragment, .label .ok] } := by
  rw [rxchkTxn_eq_rxchkStep (by simp [hx])]
  simp only [hx, rxchkStep]
  simp [State.readFragment, State.raise, State.emit]

theorem rxchkTxn_releases (hx : s.rxPhase = .release got) (hl : s.lock = .receiver) :
    exec .rxchkTxn s = .next { s with
      lock := .free, rxPhase := .idle, trace := s.trace ++ [.label .ok, .returned (.bit got)] } := by
  change execRxchkTxn s = _
  simp only [execRxchkTxn, hx, rxchkStep_releases hx hl, Result.andThen_next, State.raise, State.emit_emit]
  rfl

theorem rxchkTxn_stops (hx : s.rxPhase = .release got) (hl : s.lock ≠ .receiver) :
    exec .rxchkTxn s = .fault .releaseByNonOwner := by
  change execRxchkTxn s = _
  simp only [execRxchkTxn, hx, rxchkStep_stops hx hl]
  rfl

end

/-- Settles O37: each place has its rule. -/
theorem rxchkTxnSteps : Obligations.RxchkTxnSteps := fun _ =>
  ⟨rxchkTxn_acquires, rxchkTxn_waits, rxchkTxn_queries, rxchkTxn_reads, fun _ => rxchkTxn_releases,
    fun _ => rxchkTxn_stops⟩

/-- Settles O38: the availability test decides between RELEASE at once and RELEASE after the read. -/
theorem rxchkTxnReadsAtMostOne : Obligations.RxchkTxnReadsAtMostOne := by
  refine fun s hx hl => ⟨fun havail => ?_, fun havail => ?_⟩
  · refine Eq.trans (execTimes_succ_of_next (rxchkTxn_acquires hx hl)) ?_
    refine Eq.trans (execTimes_succ_of_next (rxchkTxn_queries rfl)) ?_
    refine Eq.trans (execTimes_succ_of_next (rxchkTxn_releases (got := false) (by simp [havail]) rfl)) ?_
    simp [execTimes, havail, hx, hl]
  · refine Eq.trans (execTimes_succ_of_next (rxchkTxn_acquires hx hl)) ?_
    refine Eq.trans (execTimes_succ_of_next (rxchkTxn_queries rfl)) ?_
    refine Eq.trans (execTimes_succ_of_next (rxchkTxn_reads (by simp [havail]))) ?_
    refine Eq.trans (execTimes_succ_of_next (rxchkTxn_releases rfl rfl)) ?_
    simp [execTimes, havail, hx, hl]

end Sys2Proof.Machine
end

section
/-! PROOF. R195, R196, R198: the SENDER's sequences. Each builds its frame, takes the steps of the send transaction, and has
its own step after the RELEASE; a whole run is the build, the four steps of `execTimes_sends`, the RELEASE and the end. -/

namespace Sys2Proof.Machine
open Sys2Proof

/-! ### The two frames the SENDER builds (R151, R152) -/

/-- The power-limit frame of a configuration, its bytes written out. -/
def powerLimitFrame (c : Params) : Bytes :=
  frameBytes c.typeControl c.peerAddr c.localAddr 0x81
    ([0x00, 0x0B] ++ be16 (BitVec.ofNat 16 (c.startupLimitUnits * 20)) ++
      be16 ((if c.startupPersist then 0x0100#16 else 0#16) ||| (if c.startupRelative then 0x0001#16 else 0#16)))

/-- The time-sync frame of a configuration and a count of seconds, its bytes written out. -/
def timeSyncFrame (c : Params) (u : Word) : Bytes :=
  frameBytes c.typeTimesync c.peerAddr c.localAddr 0x81
    ([0x0B, 0x00] ++ be32 u ++ [0x00, 0x00, 0x00, 0x05, 0x00, 0x00, 0x00])

theorem startupFrame_of_le {c : Params} (hlimit : c.startupLimitUnits ≤ 3276) (hc : 19 ≤ c.maxFrameLen) :
    startupFrame c = .ok (powerLimitFrame c) := by
  have hpayload : 6 ≤ c.maxTxPayload := Nat.le_sub_of_add_le hc
  rw [startupFrame, plimit_of_le hlimit]
  refine encodeFrame_of_le ?_ ..
  exact hpayload

theorem startupFrame_of_lt {c : Params} (hlimit : 3276 < c.startupLimitUnits) :
    startupFrame c = .error .refuseBadOperand := by
  rw [startupFrame, plimit_of_lt hlimit]

theorem commandFrame_tsync {c : Params} (hc : 26 ≤ c.maxFrameLen) (u : Word) :
    commandFrame c (.timesync (tsync u)) = .ok (timeSyncFrame c u) := by
  have hpayload : 13 ≤ c.maxTxPayload := Nat.le_sub_of_add_le hc
  refine encodeFrame_of_le ?_ ..
  exact hpayload

/-! ### STARTUP (R195) -/

section
variable {s : State}

theorem startup_builds (hs : s.sstep = .sStartup) (hp : s.txnS = .idle) (hlimit : s.cfg.startupLimitUnits ≤ 3276)
    (hc : 19 ≤ s.cfg.maxFrameLen) :
    exec .startup s = .next { s with
      txbufS := powerLimitFrame s.cfg, txnS := .acquire, trace := s.trace ++ [.label .ok] } := by
  change execStartup s = _
  simp only [execStartup, hs, hp, startupFrame_of_le hlimit hc]
  rfl

/-- D20: a limit that is refused is not sent. -/
theorem startup_refuses (hs : s.sstep = .sStartup) (hp : s.txnS = .idle) (hlimit : 3276 < s.cfg.startupLimitUnits) :
    exec .startup s = .next { s with txnS := .finish, trace := s.trace ++ [.label .refuseBadOperand] } := by
  change execStartup s = .next ((s.setTxn .sender .finish).raise .refuseBadOperand)
  simp only [execStartup, hs, hp, startupFrame_of_lt hlimit]

theorem startup_eq_sendStep (hs : s.sstep = .sStartup) (hp : s.txnS.BeforeRelease) :
    exec .startup s = sendStep .sender s := by
  change execStartup s = _
  obtain hp | hp | hp | hp := hp <;> simp only [execStartup, hs, hp]

theorem startup_releases (hs : s.sstep = .sStartup) (hp : s.txnS = .release) (hl : s.lock = .sender) :
    exec .startup s = .next { s with lock := .free, txnS := .finish, trace := s.trace ++ [.label .ok] } := by
  change execStartup s = _
  simp only [execStartup, hs, hp, sendStep_releases (a := .sender) hp hl]
  rfl

theorem startup_stops (hs : s.sstep = .sStartup) (hp : s.txnS = .release) (hl : s.lock ≠ .sender) :
    exec .startup s = .fault .releaseByNonOwner := by
  change execStartup s = _
  simp only [execStartup, hs, hp, sendStep_stops (a := .sender) hp hl]
  rfl

theorem syncFirstDelayMs_pos_iff {c : Params} : 0 < c.syncFirstDelayMs.toNat ↔ c.syncFirstDelayed = true := by
  rw [Params.syncFirstDelayMs]
  cases c.syncFirstDelayed <;> simp

/-- R195: the loop begins with its sleep exactly when the first round is delayed. -/
theorem startup_finishes (hs : s.sstep = .sStartup) (hp : s.txnS = .finish) :
    exec .startup s = .next { s with
      nextSync := s.port.now + (if s.cfg.syncFirstDelayed then 5000#32 else 0#32)
      sstep := if s.cfg.syncFirstDelayed then .sSleep else .sSync
      txnS := .idle
      trace := s.trace ++ [.label .ok] } := by
  change execStartup s = _
  simp only [execStartup, hs, hp, syncFirstDelayMs_pos_iff]
  rfl

theorem startup_rests (hs : s.sstep ≠ .sStartup) : exec .startup s = .next s := by
  change execStartup s = _
  unfold execStartup
  split
  next h => exact absurd h hs
  next => rfl
  next => rfl
  next => rfl

end

/-- Settles O39: each place has its rule; between the build and the RELEASE both operations are the transaction's step. -/
theorem startupSteps : Obligations.StartupSteps := fun _ =>
  ⟨startup_builds, startup_refuses,
    fun hs hp => (startup_eq_sendStep hs hp).trans (sendTxn_eq_sendStep (a := .sender) (.inl hp)).symm,
    startup_releases, startup_stops, startup_finishes, startup_rests⟩

/-- Settles O40: the build, the four steps up to the RELEASE, the RELEASE, and the two last assignments. -/
theorem startupSendsOnePowerLimit : Obligations.StartupSendsOnePowerLimit := by
  rintro s f hs hp hl hlimit hc rfl
  refine Eq.trans (execTimes_succ_of_next (startup_builds hs hp hlimit hc)) ?_
  refine Eq.trans (execTimes_sends (a := .sender)
    (s := { s with txbufS := powerLimitFrame s.cfg, txnS := .acquire, trace := s.trace ++ [.label .ok] })
    (fun _ hat => startup_eq_sendStep (hat.trans hs)) rfl hl 2) ?_
  refine Eq.trans (execTimes_succ_of_next (startup_releases hs rfl rfl)) ?_
  refine Eq.trans (execTimes_succ_of_next (startup_finishes hs rfl)) ?_
  simp [execTimes, State.emit, State.setTxn, State.txbuf, powerLimitFrame, hp, hl]

/-! ### SYNC and DIAG (R196, R198) -/

section
variable {s : State}

theorem sync_builds (hs : s.sstep = .sSync) (hp : s.txnS = .idle) (hc : 26 ≤ s.cfg.maxFrameLen) :
    exec .sync s = .next { s with
      txbufS := timeSyncFrame s.cfg s.port.unixSeconds, txnS := .acquire, trace := s.trace ++ [.label .ok] } := by
  change execSync s = _
  simp only [execSync, hs, hp, commandFrame_tsync hc]
  rfl

theorem sync_eq_sendStep (hs : s.sstep = .sSync) (hp : s.txnS.BeforeRelease) :
    exec .sync s = sendStep .sender s := by
  change execSync s = _
  obtain hp | hp | hp | hp := hp <;> simp only [execSync, hs, hp]

theorem sync_releases (hs : s.sstep = .sSync) (hp : s.txnS = .release) (hl : s.lock = .sender) :
    exec .sync s = .next { s with
      lock := .free, txnS := .idle, sstep := .sDiag, trace := s.trace ++ [.label .ok] } := by
  change execSync s = _
  simp only [execSync, hs, hp, sendStep_releases (a := .sender) hp hl]
  rfl

theorem sync_stops (hs : s.sstep = .sSync) (hp : s.txnS = .release) (hl : s.lock ≠ .sender) :
    exec .sync s = .fault .releaseByNonOwner := by
  change execSync s = _
  simp only [execSync, hs, hp, sendStep_stops (a := .sender) hp hl]
  rfl

theorem sync_diagnoses (hs : s.sstep = .sDiag) :
    exec .sync s = .next { s with
      nextSync := s.port.now + 5000#32, sstep := .sSleep, trace := s.trace ++ [.label .ok] } := by
  change execSync s = _
  simp only [execSync, hs]
  rfl

theorem reached_iff {now wake : Word} : reached now wake = true ↔ (now - wake).toNat < 2 ^ 31 := decide_eq_true_iff

theorem reached_eq_false_iff {now wake : Word} : reached now wake = false ↔ 2 ^ 31 ≤ (now - wake).toNat := by
  rw [← Bool.not_eq_true, reached_iff, Nat.not_lt]

theorem sync_wakes (hs : s.sstep = .sSleep) (hp : s.txnS = .idle) (hwake : (s.port.now - s.nextSync).toNat < 2 ^ 31) :
    exec .sync s = .next { s with sstep := .sSync, trace := s.trace ++ [.label .ok] } := by
  change execSync s = _
  have hreached : s.txnS = .idle ∧ reached s.now s.nextSync = true := ⟨hp, reached_iff.mpr hwake⟩
  simp only [execSync, hs, if_pos hreached]
  rfl

theorem sync_sleeps (hs : s.sstep = .sSleep)
    (hwait : s.txnS ≠ .idle ∨ 2 ^ 31 ≤ (s.port.now - s.nextSync).toNat) : exec .sync s = .next s := by
  change execSync s = _
  have hnot : ¬(s.txnS = .idle ∧ reached s.now s.nextSync = true) := fun ⟨hp, hreached⟩ =>
    hwait.elim (· hp) (Nat.not_le.mpr (reached_iff.mp hreached))
  simp only [execSync, hs, if_neg hnot]

theorem sync_rests (hs : s.sstep = .sStartup) : exec .sync s = .next s := by
  change execSync s = _
  simp only [execSync, hs]

end

/-- Settles O41: each step of the loop, and each place in its transaction, has its rule. -/
theorem syncSteps : Obligations.SyncSteps := fun _ =>
  ⟨sync_builds, fun hs hp => (sync_eq_sendStep hs hp).trans (sendTxn_eq_sendStep (a := .sender) (.inl hp)).symm,
    sync_releases, sync_stops, sync_diagnoses, sync_wakes, sync_sleeps, sync_rests⟩

/-- Settles O42: the build, the four steps up to the RELEASE, the RELEASE, and the diagnosis. -/
theorem syncRoundSendsOneTimeSync : Obligations.SyncRoundSendsOneTimeSync := by
  rintro s f hs hp hl hc rfl
  refine Eq.trans (execTimes_succ_of_next (sync_builds hs hp hc)) ?_
  refine Eq.trans (execTimes_sends (a := .sender)
    (s := { s with
      txbufS := timeSyncFrame s.cfg s.port.unixSeconds, txnS := .acquire, trace := s.trace ++ [.label .ok] })
    (fun _ hat => sync_eq_sendStep (hat.trans hs)) rfl hl 2) ?_
  refine Eq.trans (execTimes_succ_of_next (sync_releases hs rfl rfl)) ?_
  refine Eq.trans (execTimes_succ_of_next (sync_diagnoses rfl)) ?_
  simp [execTimes, State.emit, State.setTxn, State.txbuf, timeSyncFrame, hp, hl]

/-- Settles O43: DIAG only labels its step. -/
theorem diagChangesNothing : Obligations.DiagChangesNothing := fun _ => rfl

end Sys2Proof.Machine
end

section
/-! PROOF. R197: POLL, by the RECEIVER's step; the rules of the single steps stand with the validation and the invariant. -/

namespace Sys2Proof.Machine
open Sys2Proof

section
variable {s : State} {got : Bool}

theorem poll_stops (hs : s.sstep ≠ .sStartup) (hr : s.rstep = .pRxchk) (hx : s.rxPhase = .release got)
    (hl : s.lock ≠ .receiver) : exec .poll s = .fault .releaseByNonOwner := by
  change execPoll s = _
  simp only [execPoll, if_neg hs, hr, hx, rxchkStep_stops hx hl]
  rfl

/-- R166: at `P_RETRY`, TICK sends the RECEIVER to `P_REREQ` exactly when its outcome is a re-request. -/
theorem State.tick_rstep_iff (hr : s.rstep = .pRetry) : s.tick.rstep = .pRereq ↔ s.tickOutcome = .rereq := by
  obtain ⟨hout, -, h⟩ | ⟨hout, -, -, h⟩ | ⟨hout, -, -, h⟩ := s.tick_cases <;> rw [hout, h]
  · simp [hr]
  · simp [hr]
  · simp

end

/-- Settles O44: each step of the RECEIVER has its rule. -/
theorem pollStepsInOrder : Obligations.PollStepsInOrder := by
  refine fun s hs => ⟨fun hr hx => ?_, fun _ => poll_releases hs, fun _ => poll_stops hs, fun t hr ht => ?_,
    fun t hr ht => ?_, fun t hr ht hrereq => ?_, fun t hr ht hrereq => ?_, poll_eq_rereqSend hs, poll_arms hs,
    fun hr ha hwake => poll_wakes hs hr ha (reached_iff.mpr hwake),
    fun hr ha hwait => poll_sleeps hs hr ha (reached_eq_false_iff.mpr hwait)⟩
  · rw [poll_eq_rxchkStep hs hr hx, rxchkTxn_eq_rxchkStep hx]
  · obtain rfl := Host.Outcome.next.inj ht
    exact poll_stores hs hr
  · obtain rfl := Host.Outcome.next.inj ht
    exact poll_completes hs hr
  · obtain rfl := Host.Outcome.next.inj ht
    exact poll_decides hs hr ((State.tick_rstep_iff hr).mp hrereq)
  · obtain rfl := Host.Outcome.next.inj ht
    exact poll_ticks hs hr (mt (State.tick_rstep_iff hr).mpr hrereq)

end Sys2Proof.Machine
end

section
/-! PROOF. R199, R226: the HOST's turn. One rule for each thing the first request can be; taking an input leaves the
requests, the record and the SENDER's place as they were. -/

namespace Sys2Proof.Machine
open Sys2Proof

/-! ### What the HOST's turn selects -/

section
variable {s : State} {r : Request} {rs : List Request} {i : Instr} {f : Bytes}

theorem State.selectHost_of_none (hq : s.requests = []) : s.selectHost = .quiet s := by
  simp only [State.selectHost, hq]

theorem State.selectHost_of_error {e : DecodeError} (hq : s.requests = r :: rs) (hd : decode r = .error e) :
    s.selectHost = .quiet ({ s with requests := rs }.raise (rejectLabel e)) := by
  simp only [State.selectHost, hq, hd]

theorem State.selectHost_of_not_hostMay (hq : s.requests = r :: rs) (hd : decode r = .ok i)
    (hmay : hostMay i = false) : s.selectHost = .quiet ({ s with requests := rs }.raise .refuseBadOpcode) := by
  simp only [State.selectHost, hq, hd, hmay, Bool.not_false, if_true]

theorem State.selectHost_of_ready (hq : s.requests = r :: rs) (hd : decode r = .ok i) (hmay : hostMay i = true)
    (hready : s.hostReady i = true) : s.selectHost = .run i { s with requests := rs } := by
  simp only [State.selectHost, hq, hd, hmay, hready, Bool.not_true, Bool.false_eq_true, if_true, if_false]

theorem State.selectHost_of_not_ready (hq : s.requests = r :: rs) (hd : decode r = .ok i) (hmay : hostMay i = true)
    (hready : s.hostReady i = false) : s.selectHost = .quiet s := by
  simp only [State.selectHost, hq, hd, hmay, hready, Bool.not_true, Bool.false_eq_true, if_false]

theorem State.hostReady_sendTxn {a : Activity} :
    s.hostReady (.sendTxn a f) = true ↔ s.sstep = .sSleep ∧ s.txnS = .idle := by
  rw [State.hostReady, Bool.and_eq_true, decide_eq_true_eq, decide_eq_true_eq]

/-- R199: of what the HOST may request, only a frame for the SENDER ever waits. -/
theorem State.hostReady_of_hostMay (hmay : hostMay i = true)
    (hframe : ∀ f, i = .sendTxn .sender f → s.sstep = .sSleep ∧ s.txnS = .idle) : s.hostReady i = true := by
  unfold State.hostReady
  split
  next a f =>
    cases a with
    | sender => exact (State.hostReady_sendTxn (a := .sender) (f := f)).mpr (hframe f rfl)
    | receiver => cases hmay
  next => rfl

theorem rejectLabel_of_ne {e : DecodeError} (he : e ≠ .reservedOpcode) : rejectLabel e = .refuseBadOperand := by
  cases e with
  | reservedOpcode => exact absurd rfl he
  | _ => rfl

end

/-! ### The step -/

section
variable {s t u : State}

theorem step_of_host_runs (h : s.TakesInput t) (hturn : t.port.turn = .host) {i : Instr}
    (hsel : t.selectHost = .run i u) : step s = exec i u := by
  rw [step_of_takesInput h, State.select, hturn]
  simp only [hsel]

theorem step_of_host_quiet (h : s.TakesInput t) (hturn : t.port.turn = .host) (hsel : t.selectHost = .quiet u) :
    step s = .next u := by
  rw [step_of_takesInput h, State.select, hturn]
  simp only [hsel]

theorem State.TakesInput.requests_eq (h : s.TakesInput t) : t.requests = s.requests := by
  rw [State.takesInput_frame h]

theorem State.TakesInput.trace_eq (h : s.TakesInput t) : t.trace = s.trace := by
  rw [State.takesInput_frame h]

theorem State.TakesInput.hostReady_eq (h : s.TakesInput t) (i : Instr) : t.hostReady i = s.hostReady i := by
  rw [State.takesInput_frame h]
  rfl

end

/-- Settles O48: each kind of first request has its rule. -/
theorem stepRunsTheDecodedRequest : Obligations.StepRunsTheDecodedRequest := by
  intro s t h hturn
  refine ⟨fun hq => step_of_host_quiet h hturn (State.selectHost_of_none (h.requests_eq.trans hq)), fun r rs hq => ?_⟩
  have hq : t.requests = r :: rs := h.requests_eq.trans hq
  rw [← h.trace_eq]
  refine ⟨fun i hd hmay hframe => ?_, fun f hd hbusy => ?_, fun i hd hmay => ?_, fun hd => ?_, fun e hd he => ?_⟩
  · exact step_of_host_runs h hturn (State.selectHost_of_ready hq hd hmay
      ((h.hostReady_eq i).trans (State.hostReady_of_hostMay hmay hframe)))
  · exact step_of_host_quiet h hturn (State.selectHost_of_not_ready hq hd rfl
      ((h.hostReady_eq _).trans (Bool.eq_false_iff.mpr (mt State.hostReady_sendTxn.mp hbusy))))
  · exact step_of_host_quiet h hturn (State.selectHost_of_not_hostMay hq hd hmay)
  · exact step_of_host_quiet h hturn (State.selectHost_of_error hq hd)
  · rw [step_of_host_quiet h hturn (State.selectHost_of_error hq hd), rejectLabel_of_ne he]
    rfl

end Sys2Proof.Machine
end

section
/-! PROOF. R14, R225, R226, R233, R234: no condition is fatal. From a state of the invariant the machine always takes a
step, and an operand outside every rule's domain only labels the step that meets it: each such operand has its rule, whose
next state is the state with the label raised. -/

namespace Sys2Proof.Machine
open Sys2Proof

/-- Settles O53: under the invariant whoever needs the lock has it, and then every turn answers a next state. -/
theorem stepNeverStops : Obligations.StepNeverStops := by
  intro s hinv
  have htake : s.TakesInput s.sample := State.takesInput_iff_sample.mpr rfl
  obtain ⟨t, ht, -⟩ := step_allowed htake hinv.arbiter.owned
  exact ⟨t, ht⟩

/-! ### Operands outside their domain -/

section
variable {s : State}

/-- R125: a fragment of a length outside DECODE's domain is dropped before it. -/
theorem decode_drops {raw : Bytes} (h : raw.length < 11 ∨ s.cfg.maxFrameLen < raw.length) :
    exec (.decode raw) s = .next (s.raise .dropLength) := by
  change execDecode raw s = _
  rw [execDecode, fragmentLengthOk_eq_false h]
  rfl

/-- R87: an index that addresses no slot never reaches the slot file. -/
theorem arrive_drops_index {index : BitVec 7} (h : isSlotIndex index.toNat = false) (last : Bool) (body : Bytes) :
    exec (.arrive index last body) s = .next (s.raise .dropIndex) := by
  obtain ⟨-, ha⟩ | ⟨hi, -, -⟩ | ⟨hi, -, -⟩ := s.arrive_cases index last body
  · exact congrArg _ ha
  · exact absurd hi (by simp [h])
  · exact absurd hi (by simp [h])

/-- R55: neither does a body that no slot holds. -/
theorem arrive_drops_length {index : BitVec 7} (hi : isSlotIndex index.toNat = true) (last : Bool) {body : Bytes}
    (hlong : s.cfg.slotCap < body.length) : exec (.arrive index last body) s = .next (s.raise .dropLength) := by
  obtain ⟨hno, -⟩ | ⟨-, -, ha⟩ | ⟨-, hfits, -⟩ := s.arrive_cases index last body
  · exact absurd hi (by simp [hno])
  · exact congrArg _ ha
  · exact absurd hlong (Nat.not_lt.mpr hfits)

/-- R21: a byte string that fits no transmit buffer begins no transaction. -/
theorem sendTxn_refuses {a : Activity} {f : Bytes} (hp : s.txn a = .idle)
    (hbad : f.length < 11 ∨ s.cfg.maxFrameLen < f.length) :
    exec (.sendTxn a f) s = .next (s.raise .refuseBadOperand) := by
  have hfits : ¬ frameFits s.cfg f = true := fun h => by
    have := frameFits_iff.mp h
    omega
  change execSendTxn a f s = _
  simp only [execSendTxn, hp, if_neg hfits]

end

/-- The index of a frame-id byte names no slot when it is 0 or above 15 (R35, R87). -/
theorem isSlotIndex_eq_false {index : BitVec 7} (h : index = 0 ∨ 15 < index.toNat) :
    isSlotIndex index.toNat = false := by
  rw [Bool.eq_false_iff, Ne, isSlotIndex_iff]
  obtain rfl | h := h
  · decide
  · omega

/-- Settles O20: each operand has its rule; CHK8 of nothing is a run. -/
theorem operandsOutsideTheirDomainChangeNothing : Obligations.OperandsOutsideTheirDomainChangeNothing := fun s =>
  ⟨rfl, fun _ => decode_drops, fun _ last body h => arrive_drops_index (isSlotIndex_eq_false h) last body,
    fun _ last _ hmin hmax => arrive_drops_length (isSlotIndex_iff.mpr ⟨hmin, hmax⟩) last, fun _ _ => sendTxn_refuses,
    fun _ data m h => exec_buildControl_reserved h data m s⟩

end Sys2Proof.Machine
end

section
/-! PROOF. R251 to R253, R257: the state after reset, and the RECEIVER's wait for the SENDER's start. -/

namespace Sys2Proof.Machine
open Sys2Proof

/-- Settles O47: POLL tests the SENDER's step before it looks at its own. -/
theorem pollWaitsForStartup : Obligations.PollWaitsForStartup := fun _ hs => if_pos hs

/-- Settles O50: the registers of `State.reset`, and the presence readings of its cleared bits. -/
theorem resetValuesOfTheSpec : Obligations.ResetValuesOfTheSpec :=
  ⟨rfl, rfl, rfl, rfl, rfl, rfl, rfl, State.isPresent_of_cleared rfl⟩

/-- Nobody is in a transaction, so nobody owns the lock and the channel listens. -/
theorem State.reset_lockInv : State.reset.LockInv where
  owns a := by cases a <;> decide
  listen := rfl

/-- R173: the engine is IDLE, and no step of the RECEIVER asks anything of it. -/
theorem State.reset_engineInv : State.reset.EngineInv where
  expected_le := Nat.zero_le _
  retry_le := Nat.zero_le _
  idle_empty _ := ⟨rfl, rfl⟩
  collecting_present hne := absurd rfl hne
  collecting_missing hne := absurd rfl hne
  req_index := by nofun
  slot_fits i hi := by
    rw [State.isPresent_of_cleared rfl] at hi
    cases hi
  store_validated := by nofun
  rx_length := rfl
  memory_wf := Memory.reset_wf

/-- Settles O51: the parts of the invariant, with both activities outside their transactions. -/
theorem resetSatisfiesTheMachineInvariant : Obligations.ResetSatisfiesTheMachineInvariant :=
  .of_sides (by decide) ⟨State.reset_lockInv, .of_idle rfl⟩
    ⟨State.reset_lockInv, .of_idle rfl rfl, State.reset_engineInv⟩ fun _ => ⟨rfl, rfl, rfl, rfl⟩

end Sys2Proof.Machine
end

section
/-! PROOF. R30, R37, R254, R258: no register is read before it is written. Two states that agree on what is live, and to
which the environment presents the same (`State.Alike`), take the same branch of every operation: whatever an operation
reads there is live. What it writes is made of what it read, so the next states agree again, and a register that becomes
live at the place it leads to has just been written. -/

namespace Sys2Proof.Machine
open Sys2Proof

/-- Both operations answer a next state, and these agree on what is live. -/
def Result.LiveEq (r r' : Result) : Prop := ∃ u v, r = .next u ∧ r' = .next v ∧ u.LiveEq v

/-- The two states agree on what is live, and the environment presents the same to both. -/
structure State.Alike (s t : State) : Prop extends s.LiveEq t where
  port : s.port = t.port

section
variable {s t : State}

theorem State.LiveEq.next (h : s.LiveEq t) : Result.LiveEq (.next s) (.next t) := ⟨s, t, rfl, rfl, h⟩

/-! ### Updates that keep the agreement -/

theorem State.LiveEq.emit (h : s.LiveEq t) (es : List Event) : (s.emit es).LiveEq (t.emit es) :=
  { h with trace := congrArg (· ++ es) h.trace }

theorem State.LiveEq.raise (h : s.LiveEq t) (l : Label) : (s.raise l).LiveEq (t.raise l) := h.emit [.label l]

theorem State.LiveEq.setLock (h : s.LiveEq t) (l : Lock) : { s with lock := l }.LiveEq { t with lock := l } :=
  { h with lock := rfl }

theorem State.LiveEq.setListen (h : s.LiveEq t) (a : Activity) (b : Bool) :
    (s.setListen a b).LiveEq (t.setListen a b) :=
  { h.emit [.setListenMode a b] with listen := rfl }

theorem State.LiveEq.setRequests (h : s.LiveEq t) (rs : List Request) :
    { s with requests := rs }.LiveEq { t with requests := rs } :=
  { h with requests := rfl }

/-- A place of a send transaction with the frame in the buffer makes the buffer live. -/
theorem State.LiveEq.setTxn (h : s.LiveEq t) {a : Activity} {p : SendPhase} (hp : p ≠ .idle)
    (hbuf : p.loaded = true → s.txbuf a = t.txbuf a) : (s.setTxn a p).LiveEq (t.setTxn a p) := by
  cases a with
  | sender => exact { h with txnS := rfl, txbufS := hbuf }
  | receiver => exact { h with txnR := rfl, txbufR := hbuf, reqIndex := fun _ hidle => absurd hidle hp }

/-- A fragment that is read, with the RELEASE still to come, stays live wherever the RECEIVER goes. -/
theorem State.LiveEq.received_at (h : s.LiveEq t) {r : RStep}
    (hbuf : r = .pValidate ∨ r = .pStore → s.rxbuf = t.rxbuf ∧ s.rxlen = t.rxlen)
    (hlive : r = .pValidate ∨ r = .pStore ∨ s.rxPhase = .release true) : s.rxbuf = t.rxbuf ∧ s.rxlen = t.rxlen :=
  (or_assoc.mpr hlive).elim hbuf fun hx => h.received (.inr (.inr hx))

/-- The RECEIVER's steps that read its receive buffer make it live. -/
theorem State.LiveEq.resumeAt (h : s.LiveEq t) {r : RStep} (hreq : r ≠ .pRereq) (hsleep : r ≠ .pSleep)
    (hbuf : r = .pValidate ∨ r = .pStore → s.rxbuf = t.rxbuf ∧ s.rxlen = t.rxlen) :
    (s.resumeAt r).LiveEq (t.resumeAt r) :=
  { h with
    rstep := rfl
    reqIndex := fun hr => absurd hr hreq
    wakeR := fun hr => absurd hr hsleep
    received := h.received_at hbuf }

/-- At its first step in `P_SLEEP` the RECEIVER has no wake time yet. -/
theorem State.LiveEq.fallAsleep (h : s.LiveEq t) :
    ({ s with sleepArmed := false }.resumeAt .pSleep).LiveEq ({ t with sleepArmed := false }.resumeAt .pSleep) :=
  { h with
    rstep := rfl
    sleepArmed := rfl
    reqIndex := by nofun
    wakeR := fun _ => by nofun
    received := h.received_at (by simp) }

/-! ### The send transaction (R193) -/

theorem State.LiveEq.txn (h : s.LiveEq t) (a : Activity) : s.txn a = t.txn a := by
  cases a with
  | sender => exact h.txnS
  | receiver => exact h.txnR

theorem State.LiveEq.txbuf (h : s.LiveEq t) {a : Activity} (hp : (s.txn a).loaded = true) : s.txbuf a = t.txbuf a := by
  cases a with
  | sender => exact h.txbufS hp
  | receiver => exact h.txbufR hp

/-- A send transaction is outside its places, before its RELEASE, at it, or (STARTUP's) after it. -/
theorem SendPhase.place (p : SendPhase) : p = .idle ∨ p.BeforeRelease ∨ p = .release ∨ p = .finish := by
  cases p <;> simp [SendPhase.BeforeRelease]

theorem SendPhase.BeforeRelease.loaded {p : SendPhase} (hp : p.BeforeRelease) : p.loaded = true := by
  obtain rfl | rfl | rfl | rfl := hp <;> rfl

/-- Up to its RELEASE a send transaction reads the lock, the `ack` and a loaded buffer. -/
theorem State.Alike.sendStep (h : s.Alike t) {a : Activity} (hp : (s.txn a).BeforeRelease) :
    Result.LiveEq (sendStep a s) (sendStep a t) := by
  have hbuf : s.txbuf a = t.txbuf a := h.txbuf hp.loaded
  have hbuf' : ∀ b, (s.setListen a b).txbuf a = (t.setListen a b).txbuf a := fun b => by cases a <;> exact hbuf
  have hplace : ∀ {p}, s.txn a = p → t.txn a = p := fun hp => (h.txn a).symm.trans hp
  obtain hp | hp | hp | hp := hp
  · by_cases hl : s.lock = .free
    · rw [sendStep_acquires hp hl, sendStep_acquires (hplace hp) (h.lock ▸ hl)]
      exact (((h.setLock _).setTxn (by decide) fun _ => by cases a <;> exact hbuf).raise _).next
    · rw [sendStep_waits hp hl, sendStep_waits (hplace hp) (h.lock ▸ hl)]
      exact h.next
  · rw [sendStep_leavesListen hp, sendStep_leavesListen (hplace hp)]
    exact (((h.setListen a false).setTxn (by decide) fun _ => hbuf' false).raise _).next
  · rw [sendStep_transmits hp, sendStep_transmits (hplace hp), hbuf, h.port]
    exact (((h.emit _).setTxn (by decide) fun _ => by simpa using hbuf).raise _).next
  · rw [sendStep_restoresListen hp, sendStep_restoresListen (hplace hp)]
    exact (((h.setListen a true).setTxn (by decide) fun _ => hbuf' true).raise _).next

/-! ### The SENDER's operations (R195, R196, R199) -/

/-- R195: STARTUP reads the configuration and `now`. -/
theorem State.Alike.startup (h : s.Alike t) (hs : s.Inv) (ht : t.Inv) (hstart : s.sstep = .sStartup) :
    Result.LiveEq (exec .startup s) (exec .startup t) := by
  have hstart' : t.sstep = .sStartup := h.sstep.symm.trans hstart
  have hplace : ∀ {p}, s.txnS = p → t.txnS = p := fun hp => h.txnS.symm.trans hp
  obtain hp | hp | hp | hp := s.txnS.place
  · by_cases hlimit : s.cfg.startupLimitUnits ≤ 3276
    · have hc := hs.frame_len
      have hc' := ht.frame_len
      rw [startup_builds hstart hp hlimit (by omega),
        startup_builds hstart' (hplace hp) (h.cfg ▸ hlimit) (by omega)]
      exact State.LiveEq.next { h.raise .ok with txnS := rfl, txbufS := fun _ => congrArg powerLimitFrame h.cfg }
    · have hlimit := Nat.lt_of_not_le hlimit
      rw [startup_refuses hstart hp hlimit, startup_refuses hstart' (hplace hp) (h.cfg ▸ hlimit)]
      exact State.LiveEq.next { h.raise .refuseBadOperand with txnS := rfl, txbufS := by nofun }
  · rw [startup_eq_sendStep hstart hp, startup_eq_sendStep hstart' (h.txnS ▸ hp)]
    exact h.sendStep (a := .sender) hp
  · have hl : s.lock = .sender := hs.arbiter.sender_owns.mpr (by rw [hp]; rfl)
    rw [startup_releases hstart hp hl, startup_releases hstart' (hplace hp) (h.lock ▸ hl)]
    exact State.LiveEq.next { h.raise .ok with lock := rfl, txnS := rfl, txbufS := by nofun }
  · rw [startup_finishes hstart hp, startup_finishes hstart' (hplace hp), h.cfg, h.port]
    exact State.LiveEq.next { h.raise .ok with
      cfg := rfl, sstep := rfl, txnS := rfl, nextSync := fun _ => rfl, txbufS := by nofun }

/-- R196: SYNC reads the configuration, the clock and, in `S_SLEEP` alone, `next_sync`. -/
theorem State.Alike.sync (h : s.Alike t) (hs : s.Inv) (ht : t.Inv) : Result.LiveEq (exec .sync s) (exec .sync t) := by
  have hat : ∀ {x}, s.sstep = x → t.sstep = x := fun hx => h.sstep.symm.trans hx
  have hplace : ∀ {p}, s.txnS = p → t.txnS = p := fun hp => h.txnS.symm.trans hp
  cases hstep : s.sstep with
  | sStartup =>
    rw [sync_rests hstep, sync_rests (hat hstep)]
    exact h.next
  | sSync =>
    obtain hp | hp | hp | hp := s.txnS.place
    · rw [sync_builds hstep hp hs.frame_len, sync_builds (hat hstep) (hplace hp) ht.frame_len, h.cfg, h.port]
      exact State.LiveEq.next { h.raise .ok with cfg := rfl, txnS := rfl, txbufS := fun _ => rfl }
    · rw [sync_eq_sendStep hstep hp, sync_eq_sendStep (hat hstep) (h.txnS ▸ hp)]
      exact h.sendStep (a := .sender) hp
    · have hl : s.lock = .sender := hs.arbiter.sender_owns.mpr (by rw [hp]; rfl)
      rw [sync_releases hstep hp hl, sync_releases (hat hstep) (hplace hp) (h.lock ▸ hl)]
      exact State.LiveEq.next { h.raise .ok with
        lock := rfl, txnS := rfl, sstep := rfl, nextSync := by nofun, txbufS := by nofun }
    · exact absurd (hstep.symm.trans (hs.arbiter.finish_step hp)) (by decide)
  | sDiag =>
    rw [sync_diagnoses hstep, sync_diagnoses (hat hstep), h.port]
    exact State.LiveEq.next { h.raise .ok with sstep := rfl, nextSync := fun _ => rfl }
  | sSleep =>
    have hsync : s.nextSync = t.nextSync := h.nextSync hstep
    by_cases hp : s.txnS = .idle
    · by_cases hwake : (s.port.now - s.nextSync).toNat < 2 ^ 31
      · rw [sync_wakes hstep hp hwake, sync_wakes (hat hstep) (hplace hp) (h.port ▸ hsync ▸ hwake)]
        exact State.LiveEq.next { h.raise .ok with sstep := rfl, nextSync := by nofun }
      · have hwait := Nat.le_of_not_lt hwake
        rw [sync_sleeps hstep (.inr hwait), sync_sleeps (hat hstep) (.inr (h.port ▸ hsync ▸ hwait))]
        exact h.next
    · rw [sync_sleeps hstep (.inl hp), sync_sleeps (hat hstep) (.inl (h.txnS ▸ hp))]
      exact h.next

/-- R199: a host frame is loaded as it is given, and sent from the buffer. -/
theorem State.Alike.sendTxn (h : s.Alike t) (hs : s.Inv) (f : Bytes) :
    Result.LiveEq (exec (.sendTxn .sender f) s) (exec (.sendTxn .sender f) t) := by
  have hplace : ∀ {p}, s.txn .sender = p → t.txn .sender = p := fun hp => h.txnS.symm.trans hp
  obtain hp | hp | hp | hp := (s.txn .sender).place
  · by_cases hfits : 11 ≤ f.length ∧ f.length ≤ s.cfg.maxFrameLen
    · rw [sendTxn_loads hp hfits.1 hfits.2, sendTxn_loads (hplace hp) hfits.1 (h.cfg ▸ hfits.2)]
      exact State.LiveEq.next { h.raise .ok with txnS := rfl, txbufS := fun _ => rfl }
    · have hbad : f.length < 11 ∨ s.cfg.maxFrameLen < f.length := by omega
      rw [sendTxn_refuses hp hbad, sendTxn_refuses (hplace hp) (h.cfg ▸ hbad)]
      exact (h.raise _).next
  · rw [sendTxn_eq_sendStep (.inl hp), sendTxn_eq_sendStep (.inl (h.txn .sender ▸ hp))]
    exact h.sendStep hp
  · have hl : s.lock = .sender := hs.arbiter.owned.send .sender (by rw [hp]; rfl)
    rw [sendTxn_eq_sendStep (.inr hp), sendTxn_eq_sendStep (.inr (hplace hp)), sendStep_releases hp hl,
      sendStep_releases (hplace hp) (h.lock.symm.trans hl)]
    exact State.LiveEq.next { h.raise .ok with lock := rfl, txnS := rfl, txbufS := by nofun }
  · rw [sendTxn_rests hp, sendTxn_rests (hplace hp)]
    exact h.next

theorem State.LiveEq.senderOp_eq (h : s.LiveEq t) (hs : s.Inv) : s.senderOp = t.senderOp := by
  unfold State.senderOp
  rw [← h.sstep, ← h.txnS]
  cases hstep : s.sstep with
  | sSleep =>
    dsimp only
    split
    next => rfl
    next hbusy =>
      have hloaded : s.txnS.loaded = true := by
        obtain hp | hp | hp | hp := s.txnS.place
        · exact absurd hp hbusy
        · exact hp.loaded
        · rw [hp]
          rfl
        · exact absurd (hstep.symm.trans (hs.arbiter.finish_step hp)) (by decide)
      rw [h.txbufS hloaded]
  | _ => rfl

/-- Whatever the SENDER is at, its operation reads live registers only. -/
theorem State.Alike.exec_senderOp (h : s.Alike t) (hs : s.Inv) (ht : t.Inv) :
    Result.LiveEq (exec s.senderOp s) (exec t.senderOp t) := by
  rw [← h.senderOp_eq hs]
  unfold State.senderOp
  split
  next hstart => exact h.startup hs ht hstart
  next => exact h.sync hs ht
  next => exact h.sync hs ht
  next =>
    split
    · exact h.sync hs ht
    · exact h.sendTxn hs s.txbufS

/-! ### The HOST's turn (R199) -/

/-- Of the state the HOST's pure operations read the configuration alone. -/
theorem exec_of_hostMay_of_cfg {i : Instr} (hmay : hostMay i = true) (hcfg : s.cfg = t.cfg) :
    (∃ r, exec i s = .next (s.answer r) ∧ exec i t = .next (t.answer r)) ∨ ∃ f, i = .sendTxn .sender f := by
  cases i
  case sendTxn a f =>
    cases a with
    | sender => exact .inr ⟨f, rfl⟩
    | receiver => cases hmay
  case resetbuf | arrive | complete | tick | abandon | rereqSend | acquire | release | rxchkTxn | startup | sync |
      poll | diag => cases hmay
  case encode | decode | cmdframe | frame | rxfrag => exact .inl ⟨_, rfl, by rw [hcfg]; rfl⟩
  all_goals exact .inl ⟨_, rfl, rfl⟩

theorem State.LiveEq.answer (h : s.LiveEq t) (r : Except Label Value) : (s.answer r).LiveEq (t.answer r) := by
  rw [State.answer_eq, State.answer_eq]
  exact h.emit _

theorem State.Alike.exec_host (h : s.Alike t) (hs : s.Inv) {i : Instr} (hmay : hostMay i = true) (rs : List Request) :
    Result.LiveEq (exec i { s with requests := rs }) (exec i { t with requests := rs }) := by
  have hq : State.Alike { s with requests := rs } { t with requests := rs } := { h.setRequests rs with port := h.port }
  obtain ⟨r, hr, hr'⟩ | ⟨f, rfl⟩ := exec_of_hostMay_of_cfg hmay hq.cfg
  · rw [hr, hr']
    exact (hq.answer r).next
  · exact hq.sendTxn ⟨hs.frame_len, { hs.arbiter with }, { hs.engine with }⟩ f

/-- What the HOST's turn looks at is live. -/
theorem State.Alike.host_turn (h : s.Alike t) (hs : s.Inv) {s₀ t₀ : State} (hstake : s₀.TakesInput s)
    (httake : t₀.TakesInput t) (hturn : s.port.turn = .host) : Result.LiveEq (step s₀) (step t₀) := by
  have hturn' : t.port.turn = .host := h.port ▸ hturn
  have hquiet {u v : State} (hsel : s.selectHost = .quiet u) (hsel' : t.selectHost = .quiet v) (huv : u.LiveEq v) :
      Result.LiveEq (step s₀) (step t₀) := by
    rw [step_of_host_quiet hstake hturn hsel, step_of_host_quiet httake hturn' hsel']
    exact huv.next
  cases hq : s.requests with
  | nil =>
    exact hquiet (State.selectHost_of_none hq) (State.selectHost_of_none (h.requests.symm.trans hq)) h.toLiveEq
  | cons r rs =>
    have hq' : t.requests = r :: rs := h.requests.symm.trans hq
    cases hd : decode r with
    | error e =>
      exact hquiet (State.selectHost_of_error hq hd) (State.selectHost_of_error hq' hd) ((h.setRequests rs).raise _)
    | ok i =>
      have hready' : t.hostReady i = s.hostReady i := by
        unfold State.hostReady
        rw [h.sstep, h.txnS]
      cases hmay : hostMay i with
      | false =>
        exact hquiet (State.selectHost_of_not_hostMay hq hd hmay) (State.selectHost_of_not_hostMay hq' hd hmay)
          ((h.setRequests rs).raise _)
      | true =>
        cases hready : s.hostReady i with
        | false =>
          exact hquiet (State.selectHost_of_not_ready hq hd hmay hready)
            (State.selectHost_of_not_ready hq' hd hmay (hready'.trans hready)) h.toLiveEq
        | true =>
          rw [step_of_host_runs hstake hturn (State.selectHost_of_ready hq hd hmay hready),
            step_of_host_runs httake hturn' (State.selectHost_of_ready hq' hd hmay (hready'.trans hready))]
          exact h.exec_host hs hmay rs

/-! ### What the engine's operations read (R160 to R168) -/

theorem State.LiveEq.isPresent (h : s.LiveEq t) : s.isPresent = t.isPresent :=
  funext (State.isPresent_congr h.present)

theorem State.LiveEq.sequenceFull (h : s.LiveEq t) : s.sequenceFull = t.sequenceFull := by
  rw [State.sequenceFull, h.expectedCount, h.isPresent, State.sequenceFull]

theorem State.LiveEq.lowestMissing (h : s.LiveEq t) : s.lowestMissing = t.lowestMissing := by
  rw [State.lowestMissing, h.expectedCount, h.isPresent, State.lowestMissing]

theorem State.LiveEq.chosenIndex (h : s.LiveEq t) : s.chosenIndex = t.chosenIndex := by
  rw [State.chosenIndex, h.lowestMissing, h.cycle, State.chosenIndex]

/-- R165: the message of a full sequence is made of present slots. -/
theorem State.LiveEq.message (h : s.LiveEq t) (hfull : s.sequenceFull = true) : s.message = t.message := by
  obtain ⟨hpos, -, hall⟩ := State.sequenceFull_iff.mp hfull
  have hcollecting : s.expectedCount ≠ 0 := fun hzero => by simp [hzero] at hpos
  rw [State.message, State.message, ← h.expectedCount]
  refine List.flatMap_congr fun i hi => ?_
  rw [List.mem_range'_1] at hi
  exact h.slots hcollecting i (hall i hi.1 (by omega))

/-- R166: in IDLE the timeout is not looked at. -/
theorem State.Alike.timedOut (h : s.Alike t) : s.timedOut = t.timedOut := by
  by_cases hidle : s.expectedCount = 0
  · simp [State.timedOut, ← h.expectedCount, hidle]
  · rw [State.timedOut, State.timedOut, State.now, State.now, h.port, h.lastActivity hidle, h.expectedCount]

theorem State.Alike.tickOutcome (h : s.Alike t) : s.tickOutcome = t.tickOutcome := by
  rw [State.tickOutcome, h.timedOut, h.retry, State.tickOutcome]

/-! ### What they write -/

theorem State.LiveEq.resetbuf (h : s.LiveEq t) : s.resetbuf.LiveEq t.resetbuf :=
  { h with
    present := rfl
    expectedCount := rfl
    retry := rfl
    slots := fun hne => absurd rfl hne
    lastActivity := fun hne => absurd rfl hne }

theorem State.LiveEq.beginSequence (h : s.LiveEq t) : s.beginSequence.LiveEq t.beginSequence := by
  unfold State.beginSequence
  rw [← h.expectedCount]
  split
  next => exact h.resetbuf
  next => exact h

/-- R161: of the slots only the stored one, and those present in COLLECTING before, are present. -/
theorem State.Alike.slotBytes_arriveAt (h : s.Alike t) (hs : s.slotData.wf) (ht : t.slotData.wf) {i : Nat}
    (hi : isSlotIndex i = true) (last : Bool) (body : Bytes) (j : Nat)
    (hj : (s.arriveAt i last body).isPresent j = true) :
    (s.arriveAt i last body).slotBytes j = (t.arriveAt i last body).slotBytes j := by
  have hs' : s.beginSequence.slotData.wf := by rwa [s.beginSequence_slotData]
  have ht' : t.beginSequence.slotData.wf := by rwa [t.beginSequence_slotData]
  rw [State.arriveAt_slotBytes, State.arriveAt_slotBytes]
  by_cases hji : j = i
  · rw [hji, State.slotBytes_storeSlot_same body hi hs', State.slotBytes_storeSlot_same body hi ht']
  · rw [State.isPresent_arriveAt _ _ _ hi, decide_eq_false hji, Bool.false_or, Bool.and_eq_true,
      decide_eq_true_eq] at hj
    rw [State.slotBytes_storeSlot_other body hi hs' hji, State.slotBytes_storeSlot_other body hi ht' hji,
      State.slotBytes_congr s.beginSequence_slotLen s.beginSequence_slotData,
      State.slotBytes_congr t.beginSequence_slotLen t.beginSequence_slotData]
    exact h.slots hj.1 j hj.2

theorem State.Alike.arriveAt (h : s.Alike t) (hs : s.slotData.wf) (ht : t.slotData.wf) {i : Nat}
    (hi : isSlotIndex i = true) (last : Bool) (body : Bytes) :
    (s.arriveAt i last body).LiveEq (t.arriveAt i last body) := by
  have hpresent : (s.arriveAt i last body).present = (t.arriveAt i last body).present :=
    congrArg (·.setIfInBounds (i - 1) true) h.beginSequence.present
  have hcount : (s.arriveAt i last body).expectedCount = (t.arriveAt i last body).expectedCount := by
    rw [State.arriveAt_expectedCount, State.arriveAt_expectedCount, h.expectedCount]
  have hslots := h.slotBytes_arriveAt hs ht hi last body
  have hstamp : (s.arriveAt i last body).lastActivity = (t.arriveAt i last body).lastActivity := by
    rw [State.arriveAt_lastActivity, State.arriveAt_lastActivity, h.port]
  exact { h.beginSequence with
    present := hpresent
    expectedCount := hcount
    slots := fun _ => hslots
    lastActivity := fun _ => hstamp }

theorem State.Alike.arrive (h : s.Alike t) (hs : s.slotData.wf) (ht : t.slotData.wf) (index : BitVec 7) (last : Bool)
    (body : Bytes) : (s.arrive index last body).LiveEq (t.arrive index last body) := by
  unfold State.arrive
  rw [h.cfg]
  cases hi : isSlotIndex index.toNat with
  | false => exact h.raise _
  | true =>
    simp only [Bool.not_true, Bool.false_eq_true, if_false]
    split
    · exact h.raise _
    · exact (h.arriveAt hs ht hi last body).raise _

theorem State.LiveEq.complete (h : s.LiveEq t) : s.complete.LiveEq t.complete := by
  by_cases hfull : s.sequenceFull = true
  · rw [State.complete_of_full hfull, State.complete_of_full (h.sequenceFull ▸ hfull), h.message hfull]
    exact h.resetbuf.emit _
  · rw [State.complete_of_not_full hfull, State.complete_of_not_full (h.sequenceFull ▸ hfull)]
    exact h.raise _

theorem State.LiveEq.decideRereq (h : s.LiveEq t) : s.decideRereq.LiveEq t.decideRereq :=
  { h.raise .rereq with
    retry := congrArg (· + 1) h.retry
    rstep := rfl
    reqIndex := fun _ _ => h.chosenIndex
    wakeR := by nofun
    received := h.received_at (by simp) }

theorem State.Alike.tick (h : s.Alike t) : s.tick.LiveEq t.tick := by
  unfold State.tick
  rw [← h.tickOutcome]
  cases s.tickOutcome with
  | nop => exact h.raise _
  | abandon => exact h.resetbuf.raise _
  | rereq => exact h.decideRereq

/-! ### The RECEIVER's operations (R169, R194, R197) -/

/-- R194: up to its RELEASE the receive-check reads the lock and the channel's answers. -/
theorem State.Alike.rxchkTxn (h : s.Alike t) (hr : s.rstep = .pRxchk) (hx : ∀ got, s.rxPhase ≠ .release got) :
    Result.LiveEq (exec .rxchkTxn s) (exec .rxchkTxn t) := by
  have hplace : ∀ {p}, s.rxPhase = p → t.rxPhase = p := fun hp => h.rxPhase.symm.trans hp
  cases hp : s.rxPhase with
  | idle =>
    by_cases hl : s.lock = .free
    · rw [rxchkTxn_acquires hp hl, rxchkTxn_acquires (hplace hp) (h.lock ▸ hl)]
      exact State.LiveEq.next { h.raise .ok with lock := rfl, rxPhase := rfl, received := by simp [hr] }
    · rw [rxchkTxn_waits hp hl, rxchkTxn_waits (hplace hp) (h.lock ▸ hl)]
      exact h.next
  | query =>
    rw [rxchkTxn_queries hp, rxchkTxn_queries (hplace hp), h.port]
    exact State.LiveEq.next { h.emit _ with
      rxPhase := rfl, received := by cases t.port.available <;> simp [hr] }
  | read =>
    rw [rxchkTxn_reads hp, rxchkTxn_reads (hplace hp), h.port, h.cfg]
    exact State.LiveEq.next { h.emit _ with cfg := rfl, rxPhase := rfl, received := fun _ => ⟨rfl, rfl⟩ }
  | release got => exact absurd hp (hx got)

/-- R169: the re-request reads `req_index` when it builds its frame, in `P_REREQ`. -/
theorem State.Alike.rereqSend (h : s.Alike t) (hs : s.Inv) : Result.LiveEq (exec .rereqSend s) (exec .rereqSend t) := by
  have hat : ∀ {r}, s.rstep = r → t.rstep = r := fun hr => h.rstep.symm.trans hr
  have hplace : ∀ {p}, s.txnR = p → t.txnR = p := fun hp => h.txnR.symm.trans hp
  by_cases hr : s.rstep = .pRereq
  · have hx : s.rxPhase = .idle := hs.arbiter.receiverInv.rxPhase_eq_idle (by rw [hr]; decide)
    obtain hp | hp | hp | hp := s.txnR.place
    · rw [rereq_builds hr hp, rereq_builds (hat hr) (hplace hp), h.reqIndex hr hp, h.cfg]
      exact State.LiveEq.next { h.raise .ok with
        cfg := rfl, txnR := rfl, reqIndex := fun _ => by nofun, txbufR := fun _ => rfl }
    · have hmem : s.txnR ∈ [.acquire, .leaveListen, .transmit, .restoreListen] := by
        simpa [SendPhase.BeforeRelease] using hp
      rw [rereq_eq_sendStep hr hmem, rereq_eq_sendStep (hat hr) (h.txnR ▸ hmem)]
      exact h.sendStep (a := .receiver) hp
    · have hl : s.lock = .receiver := hs.arbiter.owned.send .receiver (by rw [State.txn, hp]; rfl)
      rw [rereq_releases hr hp hl, rereq_releases (hat hr) (hplace hp) (h.lock ▸ hl)]
      exact State.LiveEq.next { h.raise .ok with
        lock := rfl, txnR := rfl, rstep := rfl, reqIndex := by nofun, wakeR := by nofun, txbufR := by nofun
        received := by simp [hx] }
    · exact absurd hp (hs.arbiter.rereq_step (by rw [hp]; decide)).2
  · by_cases hstamp : s.rstep = .pStamp
    · rw [rereq_stamps hstamp, rereq_stamps (hat hstamp), h.port]
      exact State.LiveEq.next { h.fallAsleep.raise .ok with lastActivity := fun _ => rfl }
    · rw [rereq_waits_elsewhere hr hstamp, rereq_waits_elsewhere (h.rstep ▸ hr) (h.rstep ▸ hstamp)]
      exact h.next

/-- R197: POLL reads the receive buffer from the read to `P_STORE`, and `wake_R` once it is written. -/
theorem State.Alike.poll (h : s.Alike t) (hs : s.Inv) (ht : t.Inv) : Result.LiveEq (exec .poll s) (exec .poll t) := by
  by_cases hstart : s.sstep = .sStartup
  · rw [pollWaitsForStartup s hstart, pollWaitsForStartup t (h.sstep ▸ hstart)]
    exact h.next
  have hstart' : t.sstep ≠ .sStartup := h.sstep ▸ hstart
  have hat : ∀ {r}, s.rstep = r → t.rstep = r := fun hr => h.rstep.symm.trans hr
  cases hr : s.rstep with
  | pRxchk =>
    by_cases hx : ∃ got, s.rxPhase = .release got
    · obtain ⟨got, hx⟩ := hx
      have hl : s.lock = .receiver := hs.arbiter.owned.rxchk (by rw [hx]; rfl)
      rw [poll_releases hstart hr hx hl,
        poll_releases hstart' (hat hr) (h.rxPhase.symm.trans hx) (h.lock.symm.trans hl)]
      refine State.LiveEq.next { h.raise .ok with
        lock := rfl, rxPhase := rfl, rstep := rfl, reqIndex := ?_, wakeR := ?_, received := ?_ }
      · cases got <;> nofun
      · cases got <;> nofun
      · intro hlive
        cases got with
        | true => exact h.received (.inr (.inr hx))
        | false => simp at hlive
    · have hx := not_exists.mp hx
      rw [poll_eq_rxchkStep hstart hr hx, poll_eq_rxchkStep hstart' (hat hr) (h.rxPhase ▸ hx),
        ← rxchkTxn_eq_rxchkStep hx, ← rxchkTxn_eq_rxchkStep (h.rxPhase ▸ hx)]
      exact h.rxchkTxn hr hx
  | pValidate =>
    obtain ⟨hbuf, hlen⟩ := h.received (.inl hr)
    have hv' : validate t.cfg t.rxlen t.rxbuf = validate s.cfg s.rxlen s.rxbuf := by rw [h.cfg, hbuf, hlen]
    cases hv : validate s.cfg s.rxlen s.rxbuf with
    | ok f =>
      rw [poll_accepts hstart hr hv, poll_accepts hstart' (hat hr) (hv'.trans hv)]
      exact ((h.raise .ok).resumeAt (r := .pStore) (by decide) (by decide) fun _ => ⟨hbuf, hlen⟩).next
    | error l =>
      rw [poll_drops hstart hr hv, poll_drops hstart' (hat hr) (hv'.trans hv)]
      exact ((h.raise l).resumeAt (r := .pRetry) (by decide) (by decide) (by simp)).next
  | pStore =>
    rw [poll_stores hstart hr, poll_stores hstart' (hat hr), (h.received (.inr (.inl hr))).1]
    exact ((h.arrive hs.engine.memory_wf ht.engine.memory_wf _ _ _).resumeAt (by decide) (by decide) (by simp)).next
  | pComplete =>
    rw [poll_completes hstart hr, poll_completes hstart' (hat hr)]
    exact (h.complete.resumeAt (by decide) (by decide) (by simp)).next
  | pRetry =>
    by_cases hout : s.tickOutcome = .rereq
    · rw [poll_decides hstart hr hout, poll_decides hstart' (hat hr) (h.tickOutcome ▸ hout)]
      exact h.tick.next
    · rw [poll_ticks hstart hr hout, poll_ticks hstart' (hat hr) (h.tickOutcome ▸ hout)]
      exact h.tick.fallAsleep.next
  | pRereq =>
    rw [poll_eq_rereqSend hstart (.inl hr), poll_eq_rereqSend hstart' (.inl (hat hr))]
    exact h.rereqSend hs
  | pStamp =>
    rw [poll_eq_rereqSend hstart (.inr hr), poll_eq_rereqSend hstart' (.inr (hat hr))]
    exact h.rereqSend hs
  | pSleep =>
    cases harmed : s.sleepArmed with
    | false =>
      rw [poll_arms hstart hr harmed, poll_arms hstart' (hat hr) (h.sleepArmed.symm.trans harmed)]
      exact State.LiveEq.next { h.raise .ok with
        sleepArmed := rfl, wakeR := fun _ _ => congrArg (fun x : Input => x.now + Config.tickMs) h.port }
    | true =>
      have hreached : reached t.now t.wakeR = reached s.now s.wakeR := by
        rw [State.now, State.now, h.port, h.wakeR hr harmed]
      have harmed' : t.sleepArmed = true := h.sleepArmed.symm.trans harmed
      cases hwake : reached s.now s.wakeR with
      | false =>
        rw [poll_sleeps hstart hr harmed hwake, poll_sleeps hstart' (hat hr) harmed' (hreached.trans hwake)]
        exact h.next
      | true =>
        rw [poll_wakes hstart hr harmed hwake, poll_wakes hstart' (hat hr) harmed' (hreached.trans hwake)]
        have hdisarmed : State.LiveEq { s with sleepArmed := false } { t with sleepArmed := false } :=
          { h with sleepArmed := rfl, wakeR := fun _ => by nofun }
        exact ((hdisarmed.resumeAt (r := .pRxchk) (by decide) (by decide) (by simp)).raise _).next

/-! ### The machine's step -/

/-- The lined-up input is the same, and past the end of the list the step number is. -/
theorem State.LiveEq.sample (h : s.LiveEq t) : s.sample.Alike t.sample := by
  unfold State.sample
  rw [h.inputs, h.cycle]
  cases t.inputs with
  | nil => exact { h with port := rfl, inputs := rfl, cycle := rfl }
  | cons x rest => exact { h with port := rfl, inputs := rfl, cycle := rfl }

/-- R254: the machine's step reads live registers only, and what it makes live it has written. -/
theorem State.LiveEq.step (h : s.LiveEq t) (hs : s.Inv) (ht : t.Inv) : Result.LiveEq (step s) (step t) := by
  have hstake : s.TakesInput s.sample := State.takesInput_iff_sample.mpr rfl
  have httake : t.TakesInput t.sample := State.takesInput_iff_sample.mpr rfl
  have hsample := h.sample
  have hs' := hs.takesInput hstake
  have ht' := ht.takesInput httake
  cases hturn : s.sample.port.turn with
  | sender =>
    rw [step_of_sender_turn hstake hturn, step_of_sender_turn httake (hsample.port ▸ hturn), ← hstake.senderOp_eq,
      ← httake.senderOp_eq]
    exact hsample.exec_senderOp hs' ht'
  | receiver =>
    rw [step_of_receiver_turn hstake hturn, step_of_receiver_turn httake (hsample.port ▸ hturn)]
    exact hsample.poll hs' ht'
  | host => exact hsample.host_turn hs' hstake httake hturn

end

/-- Settles O56: under the invariant both states take a step, and the next states agree on what is live. -/
theorem unspecifiedRegistersAreNeverRead : Obligations.UnspecifiedRegistersAreNeverRead := by
  intro s t s' hs ht h hstep
  obtain ⟨u, v, hu, hv, huv⟩ := h.step hs ht
  obtain rfl := Host.Outcome.next.inj (hstep.symm.trans hu)
  exact ⟨v, hv, huv⟩

end Sys2Proof.Machine
end
